-- ==== Sys2Proof/Word.lean ====
section
/-! DEFINITION. The words of the register window and the numbers of the units of the part. -/
namespace Sys2Proof

/-- A halfword, the width of one location of the register window (00 section 3.1). -/
abbrev Halfword := BitVec 16

/-- A 48-bit timebase value (07, head of the chapter). -/
abbrev Time := BitVec 48

/-- An axis, and its counter, index unit and schedule (00 section 3.3). -/
abbrev AxisNo := Fin 4

/-- An output line, OUT0 to OUT7. -/
abbrev LineNo := Fin 8

/-- A trigger, TRIG0 to TRIG3. -/
abbrev TriggerNo := Fin 4

/-- A slot of the entry pool (02 section 2.4). -/
abbrev Slot := Fin 128

/-- The unit number of a command word (09 section 9.1). -/
abbrev UnitNo := BitVec 4

/-- An address of the register window (11 section 11.2). -/
abbrev Address := BitVec 7

end Sys2Proof
end

