-- ==== Sys2Proof/Syntax.lean ====
section
/-! DEFINITION. The commands of the part: one constructor for each row of spec/opcode_table.json. -/
namespace Sys2Proof

/-- What a FILTER_SAMPLE_POINT examines: the lines that share one sample clock, with their raw levels at the sample
point (true is HIGH). The three lines of an axis have common sample points (R2). -/
inductive FilterInput where
  /-- The A, B and Z lines of an axis. -/
  | axis (n : AxisNo) (a b z : Bool)
  /-- One trigger line. -/
  | trigger (n : TriggerNo) (raw : Bool)
  /-- The SYNC line. -/
  | sync (raw : Bool)
  deriving DecidableEq, Repr

/-- The host actions at the journal that may be taken before or after each admission of a moment: the three reader actions
(R149) and the read of the overwrite count (R142). -/
inductive HostAction where
  | openRecord | release | discard | readOverwrites
  deriving DecidableEq, Repr

/-- An event of the decoder or of the index unit of an axis. It may offer two records: a WRAP or PHASE_ERR and then a COMPARE
or FAULT (R10, R12), or an INDEX and then a HOMED (R82). `between` is the host action, where there is one, that the world puts
after the admission of the first and before that of the second (R142, R149) [15]. -/
structure AxisEvent where
  axis : AxisNo
  between : Option HostAction := none
  deriving DecidableEq, Repr

/-- A command to the block: a row of spec/opcode_table.json with its operands. `u` is the unit number of a command
word, `d` a halfword that the host writes. -/
inductive Instr where
  /-- PIN_RESET (R23): RESETn is asserted. -/
  | pinReset
  /-- RESETN_RELEASE (R23): RESETn is released. -/
  | resetnRelease
  /-- DECODER_EVALUATION (R3) of an axis. -/
  | decoderEvaluation (e : AxisEvent)
  /-- INDEX_EDGE (R77): the index unit of an axis takes a change of filtered Z. -/
  | indexEdge (e : AxisEvent)
  /-- TRIGGER_LEVEL_CHANGE (R108): trigger `n` takes a change of its filtered level. -/
  | triggerLevelChange (n : TriggerNo)
  /-- HOLDOFF_EXPIRY (R112) of trigger `n`. -/
  | holdoffExpiry (n : TriggerNo)
  /-- SYNC_EDGE (R127): the timebase takes a change of the filtered SYNC level. -/
  | syncEdge
  /-- TIMEBASE_TICK (R121). -/
  | timebaseTick
  /-- TRIM_ADJUSTED_TICK (R122). -/
  | trimAdjustedTick
  /-- DEADLINE_COMPARISON (R60) of the schedule of axis `n`. -/
  | deadlineComparison (n : AxisNo)
  /-- WIDTH_EXPIRY (R97) of line `l`. -/
  | widthExpiry (l : LineNo)
  /-- GAP_EXPIRY (R97) of line `l`. -/
  | gapExpiry (l : LineNo)
  /-- AGE_LATCH_SET (R155). -/
  | ageLatchSet
  /-- SCHED_APPEND (R40). -/
  | schedAppend (u : UnitNo)
  /-- APPEND_STEP (R41) of the append that executes. -/
  | appendStep
  /-- APPEND_COMPLETION (R43) of the append that executes. -/
  | appendCompletion
  /-- SCHED_SKIP (R66). -/
  | schedSkip (u : UnitNo)
  /-- SCHED_FLUSH (R68). -/
  | schedFlush (u : UnitNo)
  /-- FLUSH_STEP (R70) of the flush that executes. -/
  | flushStep
  /-- FLUSH_COMPLETION (R71) of the flush that executes. -/
  | flushCompletion
  /-- SCHED_HOLD (R47). -/
  | schedHold (u : UnitNo)
  /-- SCHED_RUN (R47). -/
  | schedRun (u : UnitNo)
  /-- AXIS_CONFIG (R20). -/
  | axisConfig (u : UnitNo)
  /-- AXIS_START (R14). -/
  | axisStart (u : UnitNo)
  /-- AXIS_STOP (R15). -/
  | axisStop (u : UnitNo)
  /-- AXIS_RESUME (R16). -/
  | axisResume (u : UnitNo)
  /-- AXIS_SETPOS (R18). -/
  | axisSetpos (u : UnitNo)
  /-- AXIS_CLRERR (R17). -/
  | axisClrerr (u : UnitNo)
  /-- AXIS_RESET (R22). -/
  | axisReset (u : UnitNo)
  /-- HOME_ARM (R84). -/
  | homeArm (u : UnitNo)
  /-- HOME_CANCEL (R85). -/
  | homeCancel (u : UnitNo)
  /-- OUT_SET (R98). -/
  | outSet (u : UnitNo)
  /-- OUT_CLEAR (R98). -/
  | outClear (u : UnitNo)
  /-- OUT_TOGGLE (R98). -/
  | outToggle (u : UnitNo)
  /-- OUT_PULSE (R100). -/
  | outPulse (u : UnitNo)
  /-- TIME_SET (R125). -/
  | timeSet (u : UnitNo)
  /-- SYNC_ARM (R130). -/
  | syncArm (u : UnitNo)
  /-- SYNC_DISARM (R130). -/
  | syncDisarm (u : UnitNo)
  /-- SNAPSHOT (R118). -/
  | snapshot (u : UnitNo)
  /-- CHIP_RESET (R171). -/
  | chipReset (u : UnitNo)
  /-- OPEN (R145): the host writes the OPEN action to JCTRL. -/
  | readerOpen
  /-- RELEASE (R146): the host writes the RELEASE action to JCTRL. -/
  | readerRelease
  /-- DISCARD (R147): the host writes the DISCARD action to JCTRL. -/
  | readerDiscard
  /-- JCFG_WRITE (R157). -/
  | jcfgWrite (d : Halfword)
  /-- JHOLD_WRITE (R156). -/
  | jholdWrite (d : Halfword)
  /-- VIEW_DATA_READ (R150). -/
  | viewDataRead
  /-- VIEW_POINTER_WRITE (R151). -/
  | viewPointerWrite (d : Halfword)
  /-- OVERWRITE_COUNT_READ (R142). -/
  | overwriteCountRead
  /-- FLAGS_WRITE (R176). -/
  | flagsWrite (d : Halfword)
  /-- ENABLE_WRITE (R178). -/
  | enableWrite (d : Halfword)
  /-- STAGE_SEL_WRITE (R32). -/
  | stageSelWrite (d : Halfword)
  /-- STAGED_ENTRY_WRITE (R33) to the location 0x0D + `k`. -/
  | stagedEntryWrite (k : Fin 10) (d : Halfword)
  /-- AXIS_STAGING_WRITE (R170) to the location 0x18 + `k`. -/
  | axisStagingWrite (k : Fin 8) (d : Halfword)
  /-- LINE_CONFIG_WRITE (R102) to the location 0x40 + 2 `l`. -/
  | lineConfigWrite (l : LineNo) (d : Halfword)
  /-- WIDTH_WRITE (R101) to the location 0x41 + 2 `l`. -/
  | widthWrite (l : LineNo) (d : Halfword)
  /-- COLLISION_COUNTER_READ (R105) at the location 0x50 + `l`. -/
  | collisionCounterRead (l : LineNo)
  /-- TRIGGER_CONFIG_WRITE (R114) to the location 0x58 + 2 `n`. -/
  | triggerConfigWrite (n : TriggerNo) (d : Halfword)
  /-- HOLDOFF_WRITE (R114) to the location 0x59 + 2 `n`. -/
  | holdoffWrite (n : TriggerNo) (d : Halfword)
  /-- SYNC_CONFIG_WRITE (R127). -/
  | syncConfigWrite (d : Halfword)
  /-- TRIM_MODE_WRITE (R123). -/
  | trimModeWrite (d : Halfword)
  /-- ADDS_COUNTER_READ (R124). -/
  | addsCounterRead
  /-- SKIPS_COUNTER_READ (R124). -/
  | skipsCounterRead
  /-- POSITION_LOW_READ (R186) at the location 0x20 + 8 `n`. -/
  | positionLowRead (n : AxisNo)
  /-- TIME_LOW_READ (R187). -/
  | timeLowRead
  /-- REGISTER_WRITE (R185): a host write access to the address `a`. -/
  | registerWrite (a : Address) (d : Halfword)
  /-- FILTER_SAMPLE_POINT (R1). -/
  | filterSamplePoint (f : FilterInput)
  /-- COMMAND_WRITE (R164): a host write of `d` to the command location. -/
  | commandWrite (d : Halfword)
  deriving DecidableEq, Repr

end Sys2Proof
end

