-- ==== Sys2Proof/Decode.lean ====
section
/-! DEFINITION. Decoding of a word by the bits of spec/opcode_table.json. No row of the table gives bits ("fields" is empty
in all 67), so no word spells a command [18]. -/
namespace Sys2Proof

/-- The command that a word spells by the table's bits: none, since no row gives bits. -/
def decodeTableWord (_nbits _w : Nat) : Option Instr := none

end Sys2Proof
end

