-- ==== Sys2Proof/Config.lean ====
section
/-! DEFINITION. What the spec fixes for the part as constants. The spec leaves no value of any command open, so no
free value stands here. -/
namespace Sys2Proof.Config

/-- The constant of the ID location (R195). -/
def identity : BitVec 16 := 0x3B41

/-- The most records the journal holds (R138). -/
def ringCapacity : Nat := 64

/-- The halfwords of the view buffer, and the stop of the read pointer (R144, R150). -/
def viewCapacity : Nat := 32

/-- Ticks of 10 ns in an interval unit of 100 ns (00 section 3.2). -/
def ticksPerInterval : Nat := 10

/-- Ticks of 10 ns in an age unit of 10 µs (00 section 3.2). -/
def ticksPerAge : Nat := 1000

/-- The fixed filter length of the SYNC line (R127). -/
def syncFilterLength : Nat := 2

/-- The shortest and the longest trim interval (R123). -/
def minTrimInterval : Nat := 16

/-- The longest trim interval (R123). -/
def maxTrimInterval : Nat := 16777216

/-- The smallest and the largest modulus of a ROTARY axis (R20, field 3). -/
def minModulus : Nat := 2

/-- The largest modulus of a ROTARY axis (R20, field 3). -/
def maxModulus : Nat := 16777216

end Sys2Proof.Config
end

