-- ==== Sys2Proof/Machine/State.lean ====
section
/-! DEFINITION. The state of the AQC-4 as plain data, its reset value, and the reasons for which a step can stop. -/
namespace Sys2Proof.Machine

/-! ## Input lines -/

/-- An (A,B) pair; true is HIGH. -/
structure LinePair where
  a : Bool
  b : Bool
  deriving DecidableEq, Repr

/-- A digital filter (R1). `fresh` says that no sample point has been taken since pin reset, so that the next one takes
the raw value (R23, R120, R133). -/
structure Filter where
  level : Bool
  run : Nat
  fresh : Bool
  deriving DecidableEq, Repr

/-- A filter as pin reset leaves it. DESIGN CHOICE: the level until the first sample point is LOW [4]. Unsafe. -/
def Filter.reset : Filter := { level := false, run := 0, fresh := true }

/-- The interval between sample points: /1, /8, /64 or /512 (R2). -/
inductive SampleClock where
  | div1 | div8 | div64 | div512
  deriving DecidableEq, Repr

/-- A sample divider (R2, R108): the ticks counted in the present interval, and whether the latest tick it counted reached a
sample point that no FILTER_SAMPLE_POINT has taken yet [3]. -/
structure Divider where
  count : Nat
  due : Bool
  deriving DecidableEq, Repr

/-- A restarted divider: the first sample point falls one interval later (R2). -/
def Divider.restart : Divider := { count := 0, due := false }

/-! ## Axes -/

inductive DecodeMode where
  | quadX4 | quadX2 | quadX1 | stepDir | upDown
  deriving DecidableEq, Repr

inductive Range where
  | linear | rotary
  deriving DecidableEq, Repr

inductive Direction where
  | forward | reverse
  deriving DecidableEq, Repr

/-- ANY, FORWARD or REVERSE: the qualifier of an entry (R26) and the index direction filter (R78). -/
inductive Qualifier where
  | any | forward | reverse
  deriving DecidableEq, Repr

inductive AxisState where
  | stopped | counting | faulted
  deriving DecidableEq, Repr

inductive Homing where
  | unreferenced | seeking | referenced
  deriving DecidableEq, Repr

inductive IndexPolarity where
  | highGoing | lowGoing
  deriving DecidableEq, Repr

/-- The gate source of a schedule (R49): NONE, or a trigger with the level that opens the gate (true is HIGH). -/
inductive Gate where
  | none
  | onLevel (t : TriggerNo) (high : Bool)
  deriving DecidableEq, Repr

/-- The live configuration of an axis (01 section 1.7). `gatePhase = none` is ANY. -/
structure AxisConfig where
  decodeMode : DecodeMode
  invert : Bool
  range : Range
  modulus : BitVec 32
  filterLength : BitVec 4
  sampleClock : SampleClock
  recordWraps : Bool
  recordPhaseErrors : Bool
  faultThreshold : BitVec 8
  indexPolarity : IndexPolarity
  gatePhase : Option LinePair
  indexDirection : Qualifier
  recordIndex : Bool
  reference : BitVec 32
  quota : BitVec 8
  gate : Gate
  deriving DecidableEq, Repr

/-- The reset values of the table in 01 section 1.7. -/
def AxisConfig.reset : AxisConfig :=
  { decodeMode := .quadX4, invert := false, range := .linear, modulus := 0, filterLength := 0, sampleClock := .div1,
    recordWraps := false, recordPhaseErrors := false, faultThreshold := 0, indexPolarity := .highGoing,
    gatePhase := none, indexDirection := .any, recordIndex := false, reference := 0, quota := 32, gate := .none }

/-- An axis counter with its input filters and its index unit (01, 04). `zChanged`: filtered Z changed at the latest sample
point and the index unit has not taken the change (R77). `sampledAt`: the timebase value at the latest sample
point, which stamps the records of its events (R1). Both are the model's own fields [3]. -/
structure Axis where
  config : AxisConfig
  state : AxisState
  position : BitVec 32
  revolution : BitVec 16
  direction : Direction
  phase : LinePair
  errorTotal : BitVec 16
  errorSince : BitVec 8
  filterA : Filter
  filterB : Filter
  filterZ : Filter
  divider : Divider
  zChanged : Bool
  sampledAt : Time
  homing : Homing
  deriving DecidableEq, Repr

/-- An axis after pin reset (R22, R23, R88). -/
def Axis.reset : Axis :=
  { config := .reset, state := .stopped, position := 0, revolution := 0, direction := .forward,
    phase := { a := false, b := false }, errorTotal := 0, errorSince := 0, filterA := .reset, filterB := .reset,
    filterZ := .reset, divider := .restart, zChanged := false, sampledAt := 0, homing := .unreferenced }

/-! ## Schedules and the entry pool -/

inductive RunMode where
  | run | hold
  deriving DecidableEq, Repr

/-- A compare schedule (R45). `compareDue`: the comparison of the head's deadline is taken up and has not been made
(R60). -/
structure Schedule where
  list : List Slot
  runMode : RunMode
  draining : Bool
  compareDue : Bool
  deriving DecidableEq, Repr

/-- R76. -/
def Schedule.reset : Schedule := { list := [], runMode := .run, draining := false, compareDue := false }

inductive OutputOp where
  | none | pulse | set | clear | toggle
  deriving DecidableEq, Repr

inductive RecordField where
  | none | self | gang
  deriving DecidableEq, Repr

/-- An entry record of the pool (02 section 2.1). The output line keeps the four bits of the staged entry, of which an
entry with an output op uses 0 to 7 (R31 check 3). -/
structure Entry where
  target : BitVec 32
  qualifier : Qualifier
  op : OutputOp
  line : BitVec 4
  record : RecordField
  tag : BitVec 8
  count : BitVec 16
  stride : BitVec 32
  deadlinePresent : Bool
  deadline : Time
  remaining : BitVec 16
  deriving DecidableEq, Repr

/-- The record of a slot that has never been taken. DESIGN CHOICE: the spec gives the slots no reset value [10]. -/
def Entry.blank : Entry :=
  { target := 0, qualifier := .any, op := .none, line := 0, record := .none, tag := 0, count := 1, stride := 0,
    deadlinePresent := false, deadline := 0, remaining := 0 }

/-- The entry pool: the free list, first-in first-out, and the 128 entry records (R35, R36). -/
structure Pool where
  free : List Slot
  entries : Vector Entry 128
  deriving DecidableEq, Repr

/-- R38: slots 0 to 127 in ascending order. -/
def Pool.reset : Pool := { free := List.finRange 128, entries := Vector.replicate 128 Entry.blank }

/-! ## Output lines -/

inductive LineState where
  | static | pulsing | deferred | gap
  deriving DecidableEq, Repr

inductive CollisionPolicy where
  | restart | discard | defer
  deriving DecidableEq, Repr

/-- An output line unit (05 section 5.1). A timer is stopped (`none`) or has so many ticks left; `some 0` has counted its
full length and its expiry has not been taken. -/
structure Line where
  state : LineState
  staticLevel : Bool
  pulseLevel : Bool
  width : BitVec 16
  gap : BitVec 8
  policy : CollisionPolicy
  collisions : BitVec 16
  widthTimer : Option Nat
  gapTimer : Option Nat
  deriving DecidableEq, Repr

/-- R107. -/
def Line.reset : Line :=
  { state := .static, staticLevel := false, pulseLevel := true, width := 10, gap := 10, policy := .discard,
    collisions := 0, widthTimer := none, gapTimer := none }

/-! ## Triggers -/

inductive EdgeSelect where
  | off | rise | fall | both
  deriving DecidableEq, Repr

inductive TriggerState where
  | ready | holdoff
  deriving DecidableEq, Repr

/-- A trigger unit (06 section 6.1). The pulse line is NONE while `pulseEnable` is false (R193). `changed`: the filtered
level changed at the latest sample point and the unit has not taken the change (R108). `sampledAt`: the timebase
value at the latest sample point, which stamps the records of its event (R108). Both are the model's own fields [3]. -/
structure Trigger where
  filter : Filter
  changed : Bool
  sampledAt : Time
  divider : Divider
  filterLength : BitVec 4
  sampleClock : SampleClock
  edge : EdgeSelect
  snap : Bool
  pulseEnable : Bool
  pulseLine : LineNo
  holdoff : BitVec 16
  state : TriggerState
  timer : Option Nat
  suppressed : BitVec 8
  deriving DecidableEq, Repr

/-- R120. -/
def Trigger.reset : Trigger :=
  { filter := .reset, changed := false, sampledAt := 0, divider := .restart, filterLength := 0, sampleClock := .div1, edge := .off,
    snap := false, pulseEnable := false, pulseLine := 0, holdoff := 0, state := .ready, timer := none, suppressed := 0 }

/-! ## Timebase -/

inductive TrimMode where
  | off | add | skip
  deriving DecidableEq, Repr

inductive SyncMode where
  | off | capture
  deriving DecidableEq, Repr

inductive SyncEdge where
  | rise | fall
  deriving DecidableEq, Repr

inductive SyncState where
  | free | armed
  deriving DecidableEq, Repr

/-- The timebase (07, head of the chapter). `sampleDue` and `changed` are, for the SYNC filter, what `Divider.due` and
`Trigger.changed` are for a trigger. -/
structure Timebase where
  time : Time
  trimMode : TrimMode
  interval : BitVec 32
  stagedInterval : BitVec 32
  intervalCount : Nat
  adds : BitVec 16
  skips : BitVec 16
  syncMode : SyncMode
  syncEdge : SyncEdge
  syncState : SyncState
  loadValue : Time
  filter : Filter
  sampleDue : Bool
  changed : Bool
  deriving DecidableEq, Repr

/-- R133. -/
def Timebase.reset : Timebase :=
  { time := 0, trimMode := .off, interval := 16, stagedInterval := 16, intervalCount := 0, adds := 0, skips := 0,
    syncMode := .off, syncEdge := .rise, syncState := .free, loadValue := 0, filter := .reset, sampleDue := false,
    changed := false }

/-! ## The capture journal -/

/-- The thirteen causes of a record (08 section 8.1.1). -/
inductive Cause where
  | index | homed | compare | expired | flushed | phaseErr | fault | wrap | trigger | snapshot | sync | timeset | loss
  deriving DecidableEq, Repr

/-- The entry group of a record (R134). -/
structure EntryGroup where
  slot : Slot
  tag : BitVec 8
  remaining : BitVec 16
  deriving DecidableEq, Repr

/-- A gang capture (R116): the position of each axis that is present. -/
structure Gang where
  positions : Vector (Option (BitVec 32)) 4
  deriving DecidableEq, Repr

/-- What a block offers as a record (R134): all of the record but its sequence number. -/
structure Content where
  cause : Cause
  axis : Option AxisNo := none
  stamp : Time
  position : Option (BitVec 32) := none
  revolution : Option (BitVec 16) := none
  gang : Option Gang := none
  entry : Option EntryGroup := none
  aux : Option (BitVec 16) := none
  value32 : Option (BitVec 32) := none
  value48 : Option Time := none
  deriving DecidableEq, Repr

/-- A journal record (R134). -/
structure Record where
  seq : BitVec 16
  content : Content
  deriving DecidableEq, Repr

/-- The block that offers a record, as the fixed order of R137 names it. -/
inductive Source where
  | counter (n : AxisNo)
  | indexUnit (n : AxisNo)
  | schedule (n : AxisNo)
  | trigger (n : TriggerNo)
  | timebase
  | engine
  deriving DecidableEq, Repr

/-- An offer of the present moment (R137). -/
structure Offer where
  source : Source
  content : Content
  deriving DecidableEq, Repr

inductive JournalMode where
  | stop | overwrite
  deriving DecidableEq, Repr

/-- What the admissions of a moment and the reader actions among them move: the ring, oldest first, the next sequence
number, the mode, and the view. The view length is the length of `view`. -/
structure Arbiter where
  ring : List Record
  nextSeq : BitVec 16
  mode : JournalMode
  view : List Halfword
  deriving DecidableEq, Repr

/-- What is taken at the journal within a moment (R137, R149): the admission of an offer; an OPEN that opens a record
(R145); a RELEASE that removes the oldest record and a DISCARD, with the LOSS record that either admits (R140); and a write
of JCFG that sets the mode (R157). -/
inductive JournalEvent where
  | admission (o : Offer)
  | openOldest
  | release (loss : Option Content)
  | discard (loss : Option Content)
  | setMode (m : JournalMode)
  deriving DecidableEq, Repr

/-- The present moment (R137): the journal as the moment began, and what has been taken at it since, in order. The model's
own field [7]. -/
structure Moment where
  start : Arbiter
  events : List JournalEvent
  deriving DecidableEq, Repr

inductive ReaderState where
  | closed | opened
  deriving DecidableEq, Repr

inductive AccessResult where
  | none | ok | empty | alreadyOpen | notOpen | stale | cfgRefused
  deriving DecidableEq, Repr

/-- A running age timer (R154): its count, and the ticks counted of the age unit in progress. -/
structure AgeTimer where
  count : BitVec 16
  ticks : Nat
  deriving DecidableEq, Repr

/-- R154: a start or restart. -/
def AgeTimer.start : AgeTimer := { count := 0, ticks := 0 }

/-- The capture journal (08, head of the chapter). -/
structure Journal where
  ring : List Record
  nextSeq : BitVec 16
  mode : JournalMode
  threshold : BitVec 7
  holdTime : BitVec 16
  pendingLoss : BitVec 16
  overwrites : BitVec 16
  reader : ReaderState
  openedMark : Bool
  view : List Halfword
  viewPointer : Nat
  age : Option AgeTimer
  ageLatch : Bool
  lastAccess : AccessResult
  moment : Moment
  deriving DecidableEq, Repr

/-- R160. -/
def Journal.reset : Journal :=
  { ring := [], nextSeq := 0, mode := .stop, threshold := 1, holdTime := 0, pendingLoss := 0, overwrites := 0,
    reader := .closed, openedMark := false, view := [], viewPointer := 0, age := none, ageLatch := false,
    lastAccess := .none, moment := { start := { ring := [], nextSeq := 0, mode := .stop, view := [] }, events := [] } }

/-! ## The command engine -/

inductive ResultCode where
  | none | ok | badOpcode | badArg | badEntry | poolEmpty | schedFull | wrongState
  deriving DecidableEq, Repr

/-- A staged entry: the raw codes that the host wrote (R32, R190). -/
structure StagedEntry where
  target : BitVec 32
  qualifier : BitVec 2
  op : BitVec 3
  line : BitVec 4
  record : BitVec 2
  tag : BitVec 8
  count : BitVec 16
  stride : BitVec 32
  deadlinePresent : Bool
  deadline : Time
  deriving DecidableEq, Repr

/-- R34. -/
def StagedEntry.reset : StagedEntry :=
  { target := 0, qualifier := 0, op := 0, line := 0, record := 0, tag := 0, count := 1, stride := 0,
    deadlinePresent := false, deadline := 0 }

/-- The axis configuration staging record: the raw codes that the host wrote (R170, 11 section 11.6.3). -/
structure AxisStaging where
  decodeMode : BitVec 3
  invert : Bool
  range : BitVec 2
  recordWraps : Bool
  recordPhaseErrors : Bool
  sampleClock : BitVec 2
  filterLength : BitVec 4
  faultThreshold : BitVec 8
  indexPolarity : Bool
  gatePhase : BitVec 3
  indexDirection : BitVec 2
  recordIndex : Bool
  modulus : BitVec 32
  reference : BitVec 32
  quota : BitVec 8
  gateKind : BitVec 2
  gateTrigger : BitVec 3
  deriving DecidableEq, Repr

/-- R191: the codes 0, except the quota of 32. -/
def AxisStaging.reset : AxisStaging :=
  { decodeMode := 0, invert := false, range := 0, recordWraps := false, recordPhaseErrors := false, sampleClock := 0,
    filterLength := 0, faultThreshold := 0, indexPolarity := false, gatePhase := 0, indexDirection := 0,
    recordIndex := false, modulus := 0, reference := 0, quota := 32, gateKind := 0, gateTrigger := 0 }

/-- The progress of an accepted SCHED_APPEND (R41): the staging slot of the next step, the steps left, and the slot that
the first step took. -/
structure AppendProgress where
  next : Nat
  left : Nat
  first : Option Slot
  deriving DecidableEq, Repr

/-- The command state (R163, R165): IDLE, or one of the three stages of EXECUTING. -/
inductive CommandPhase where
  /-- IDLE. -/
  | idle
  /-- EXECUTING: issued, and not yet taken by the owning block. -/
  | issued
  /-- EXECUTING: an accepted SCHED_APPEND. -/
  | appending (p : AppendProgress)
  /-- EXECUTING: an accepted SCHED_FLUSH of so many entries. -/
  | flushing (total : Nat)
  deriving DecidableEq, Repr

/-- The command engine (09 section 9.1). -/
structure Engine where
  phase : CommandPhase
  opcode : BitVec 8
  unit : UnitNo
  args : Vector Halfword 4
  argCopy : Vector Halfword 4
  result : ResultCode
  detail : BitVec 16
  aux : BitVec 16
  stageSel : Fin 8
  staged : Vector StagedEntry 8
  axisStaging : AxisStaging
  deriving DecidableEq, Repr

/-- R173. -/
def Engine.reset : Engine :=
  { phase := .idle, opcode := 0, unit := 0, args := Vector.replicate 4 0, argCopy := Vector.replicate 4 0,
    result := .none, detail := 0, aux := 0, stageSel := 0, staged := Vector.replicate 8 StagedEntry.reset,
    axisStaging := .reset }

/-! ## The interrupt unit and the host bus interface -/

/-- The sticky flags and the enables, bit number = flag number of 10 section 10.1. Position 3 of `flags` is JRNL_READY,
which is not stored and stays 0 here (R175). -/
structure Interrupts where
  flags : BitVec 15
  enables : BitVec 15
  deriving DecidableEq, Repr

/-- R181. -/
def Interrupts.reset : Interrupts := { flags := 0, enables := 0 }

/-- A position shadow (R186). -/
structure PositionShadow where
  position : BitVec 32
  revolution : BitVec 16
  deriving DecidableEq, Repr

/-- The host bus interface: the read shadows, and the halfword that the latest read access drove on D[15:0] (R183);
`none` is undriven (R185) [11]. -/
structure BusInterface where
  positionShadows : Vector PositionShadow 4
  timeShadow : Time
  dataOut : Option Halfword
  deriving DecidableEq, Repr

/-- R185, R188. -/
def BusInterface.reset : BusInterface :=
  { positionShadows := Vector.replicate 4 { position := 0, revolution := 0 }, timeShadow := 0, dataOut := none }

/-! ## The whole part -/

/-- The state of the part, and the queue of the commands that wait, first in first out. `counted`: the counters derived from
CLKIN have counted the coming tick, and the timebase has not taken it: an event that falls together with that tick has been
taken before it (R121). The model's own field [3]. -/
structure State where
  inReset : Bool
  counted : Bool
  axes : Vector Axis 4
  schedules : Vector Schedule 4
  pool : Pool
  lines : Vector Line 8
  triggers : Vector Trigger 4
  timebase : Timebase
  journal : Journal
  engine : Engine
  interrupts : Interrupts
  bus : BusInterface
  pending : List Instr
  deriving DecidableEq, Repr

/-- The part right after reset: pin-reset values with RESETn released, and an empty queue [5]. -/
def State.reset : State :=
  { inReset := false, counted := false,
    axes := Vector.replicate 4 .reset, schedules := Vector.replicate 4 .reset, pool := .reset,
    lines := Vector.replicate 8 .reset, triggers := Vector.replicate 4 .reset, timebase := .reset, journal := .reset,
    engine := .reset, interrupts := .reset, bus := .reset, pending := [] }

/-- Why the machine stops. -/
inductive Fault where
  /-- Raised by APPEND_STEP when the free list is empty. Safe: R40 and R41 say that the list then holds at least as many
  slots as the batch has entries left, so no run reaches it [12]. -/
  | poolExhausted
  deriving DecidableEq, Repr

/-- Why a command has no meaning. -/
inductive Refusal where
  /-- Raised by `exec` alone, for a row that has no meaning yet. Safe. No row is left so. -/
  | notModelled (mnemonic : String)
  deriving DecidableEq, Repr

end Sys2Proof.Machine
end

