-- ==== Sys2Proof/Machine/Operands.lean ====
section
/-! DEFINITION. The forms in which values pass the register window: saturating counters, fields of halfwords, the codes
of 11 section 11.6, the judgement of the two staging areas (R20, R31), and the encoding of a record (R194). -/
namespace Sys2Proof.Machine

/-! ## Counters and fields -/

/-- A saturating counter stops at its largest value (00 section 3.1). -/
def satInc {w : Nat} (x : BitVec w) : BitVec w := if x = BitVec.allOnes w then x else x + 1

/-- The field of `w` bits whose lowest bit is `lo`. -/
def field (d : Halfword) (lo w : Nat) : BitVec w := d.extractLsb' lo w

/-- A value put with its lowest bit at `lo`. -/
def place {w : Nat} (x : BitVec w) (lo : Nat) : Halfword := x.setWidth 16 <<< lo

/-- One bit put at `lo`. -/
def placeBit (b : Bool) (lo : Nat) : Halfword := place (BitVec.ofBool b) lo

/-- Halfword `k` of a value, lowest first (00 section 3.1). -/
def halfOf {w : Nat} (x : BitVec w) (k : Nat) : Halfword := x.extractLsb' (16 * k) 16

/-- A 32-bit value with its low halfword replaced. -/
def withLow (x : BitVec 32) (d : Halfword) : BitVec 32 := halfOf x 1 ++ d

/-- A 32-bit value with its high halfword replaced. -/
def withHigh (x : BitVec 32) (d : Halfword) : BitVec 32 := d ++ halfOf x 0

/-- A 32-bit value from its halfwords, low first. -/
def word32 (lo hi : Halfword) : BitVec 32 := hi ++ lo

/-- A 48-bit value from its halfwords, lowest first. -/
def word48 (lo mid hi : Halfword) : Time := hi ++ mid ++ lo

/-- A count of at most 65535 as a halfword. -/
def half (n : Nat) : Halfword := BitVec.ofNat 16 n

/-! ## Codes -/

/-- The interval of a sample clock in ticks (R2). -/
def SampleClock.interval : SampleClock → Nat
  | .div1 => 1 | .div8 => 8 | .div64 => 64 | .div512 => 512

/-- 11 section 11.6.3: 0 /1, 1 /8, 2 /64, 3 /512. -/
def SampleClock.ofCode (c : BitVec 2) : SampleClock :=
  if c = 0 then .div1 else if c = 1 then .div8 else if c = 2 then .div64 else .div512

def SampleClock.code : SampleClock → BitVec 2
  | .div1 => 0 | .div8 => 1 | .div64 => 2 | .div512 => 3

/-- R191. -/
def DecodeMode.ofCode (c : BitVec 3) : Option DecodeMode :=
  if c = 0 then some .quadX4 else if c = 1 then some .quadX2 else if c = 2 then some .quadX1
  else if c = 3 then some .stepDir else if c = 4 then some .upDown else none

/-- R191. -/
def Range.ofCode (c : BitVec 2) : Option Range :=
  if c = 0 then some .linear else if c = 1 then some .rotary else none

/-- R190, R191: 0 ANY, 1 FORWARD, 2 REVERSE. -/
def Qualifier.ofCode (c : BitVec 2) : Option Qualifier :=
  if c = 0 then some .any else if c = 1 then some .forward else if c = 2 then some .reverse else none

/-- R190. -/
def OutputOp.ofCode (c : BitVec 3) : Option OutputOp :=
  if c = 0 then some .none else if c = 1 then some .pulse else if c = 2 then some .set
  else if c = 3 then some .clear else if c = 4 then some .toggle else Option.none

/-- R190. -/
def RecordField.ofCode (c : BitVec 2) : Option RecordField :=
  if c = 0 then some .none else if c = 1 then some .self else if c = 2 then some .gang else Option.none

/-- R191: 0 ANY; 4 to 7 for the pairs 00, 01, 10, 11; 1 to 3 name no value (the outer `none`). -/
def gatePhaseOfCode (c : BitVec 3) : Option (Option LinePair) :=
  if c = 0 then some none
  else if c.getLsbD 2 then some (some { a := c.getLsbD 1, b := c.getLsbD 0 })
  else none

/-- R191: kind 0 NONE, with any trigger code; kind 1 TRIGn-high, kind 2 TRIGn-low, with trigger 0 to 3. -/
def Gate.ofCode (kind : BitVec 2) (trigger : BitVec 3) : Option Gate :=
  if kind = 0 then some .none
  else if kind ≠ 3 ∧ trigger.toNat < 4 then some (.onLevel (Fin.ofNat 4 trigger.toNat) (kind = 1))
  else Option.none

/-- 11 section 11.6.5: 0 RESTART, 1 DISCARD, 2 DEFER. -/
def CollisionPolicy.ofCode (c : BitVec 2) : Option CollisionPolicy :=
  if c = 0 then some .restart else if c = 1 then some .discard else if c = 2 then some .defer else none

def CollisionPolicy.code : CollisionPolicy → BitVec 2
  | .restart => 0 | .discard => 1 | .defer => 2

/-- 05 section 5.1. -/
def LineState.code : LineState → BitVec 2
  | .static => 0 | .pulsing => 1 | .deferred => 2 | .gap => 3

/-- 06 section 6.1. -/
def EdgeSelect.ofCode (c : BitVec 2) : EdgeSelect :=
  if c = 0 then .off else if c = 1 then .rise else if c = 2 then .fall else .both

def EdgeSelect.code : EdgeSelect → BitVec 2
  | .off => 0 | .rise => 1 | .fall => 2 | .both => 3

def TriggerState.code : TriggerState → BitVec 1
  | .ready => 0 | .holdoff => 1

/-- 07, head of the chapter; code 3 names no mode (R193). -/
def TrimMode.ofCode (c : BitVec 2) : Option TrimMode :=
  if c = 0 then some .off else if c = 1 then some .add else if c = 2 then some .skip else none

def TrimMode.code : TrimMode → BitVec 2
  | .off => 0 | .add => 1 | .skip => 2

def SyncMode.ofBit (b : Bool) : SyncMode := if b then .capture else .off

def SyncMode.code : SyncMode → BitVec 1
  | .off => 0 | .capture => 1

def SyncEdge.ofBit (b : Bool) : SyncEdge := if b then .fall else .rise

def SyncEdge.code : SyncEdge → BitVec 1
  | .rise => 0 | .fall => 1

def SyncState.code : SyncState → BitVec 1
  | .free => 0 | .armed => 1

def JournalMode.ofBit (b : Bool) : JournalMode := if b then .overwrite else .stop

def JournalMode.code : JournalMode → BitVec 1
  | .stop => 0 | .overwrite => 1

def ReaderState.code : ReaderState → BitVec 1
  | .closed => 0 | .opened => 1

/-- 08, head of the chapter. -/
def AccessResult.code : AccessResult → BitVec 3
  | .none => 0 | .ok => 1 | .empty => 2 | .alreadyOpen => 3 | .notOpen => 4 | .stale => 5 | .cfgRefused => 6

/-- 09 section 9.1. -/
def ResultCode.code : ResultCode → BitVec 3
  | .none => 0 | .ok => 1 | .badOpcode => 2 | .badArg => 3 | .badEntry => 4 | .poolEmpty => 5 | .schedFull => 6
  | .wrongState => 7

/-- R192. -/
def AxisState.code : AxisState → BitVec 2
  | .stopped => 0 | .counting => 1 | .faulted => 2

/-- 04 section 4.3.1. -/
def Homing.code : Homing → BitVec 2
  | .unreferenced => 0 | .seeking => 1 | .referenced => 2

/-- R47, R192: 0 RUN, 1 HOLD. -/
def RunMode.code : RunMode → BitVec 1
  | .run => 0 | .hold => 1

/-- R192: 0 FORWARD, 1 REVERSE; also the aux of a WRAP record (R8). -/
def Direction.code : Direction → BitVec 1
  | .forward => 0 | .reverse => 1

/-- 08 section 8.1.1. -/
def Cause.code : Cause → BitVec 4
  | .index => 1 | .homed => 2 | .compare => 3 | .expired => 4 | .flushed => 5 | .phaseErr => 6 | .fault => 7
  | .wrap => 8 | .trigger => 9 | .snapshot => 10 | .sync => 11 | .timeset => 12 | .loss => 13

/-- R26: the directions that a qualifier accepts. -/
def Qualifier.accepts (q : Qualifier) (d : Direction) : Bool :=
  match q with
  | .any => true
  | .forward => d = .forward
  | .reverse => d = .reverse

/-- R80: the pair as a number, LOW counting 0 and HIGH counting 1. -/
def LinePair.code (p : LinePair) : BitVec 2 := BitVec.ofBool p.a ++ BitVec.ofBool p.b

/-! ## The axis configuration staging record -/

/-- A ROTARY position must lie in 0 to M-1, read as a signed number (R18, R20 field 13, R31 check 6). -/
def inRevolution (x m : BitVec 32) : Bool := 0 ≤ x.toInt ∧ x.toInt < m.toNat

/-- The first field of the record that fails its check, by its number (R20). -/
def AxisStaging.firstBad (r : AxisStaging) : Option Nat :=
  let rotary := r.range = 1
  ([ (0, (DecodeMode.ofCode r.decodeMode).isSome),
     (2, (Range.ofCode r.range).isSome),
     (3, !rotary || (Config.minModulus ≤ r.modulus.toNat && r.modulus.toNat ≤ Config.maxModulus)),
     (10, (gatePhaseOfCode r.gatePhase).isSome),
     (11, (Qualifier.ofCode r.indexDirection).isSome),
     (13, !rotary || inRevolution r.reference r.modulus),
     (14, 1 ≤ r.quota.toNat && r.quota.toNat ≤ 128),
     (15, (Gate.ofCode r.gateKind r.gateTrigger).isSome) ].find? (fun c : Nat × Bool => !c.2)).map (·.1)

/-- The configuration that the record describes. A field whose check fails reads as its reset value here; R20 lets no
such record become a live configuration. -/
def AxisStaging.toConfig (r : AxisStaging) : AxisConfig :=
  { decodeMode := (DecodeMode.ofCode r.decodeMode).getD .quadX4
    invert := r.invert
    range := (Range.ofCode r.range).getD .linear
    modulus := r.modulus
    filterLength := r.filterLength
    sampleClock := SampleClock.ofCode r.sampleClock
    recordWraps := r.recordWraps
    recordPhaseErrors := r.recordPhaseErrors
    faultThreshold := r.faultThreshold
    indexPolarity := if r.indexPolarity then .lowGoing else .highGoing
    gatePhase := (gatePhaseOfCode r.gatePhase).getD none
    indexDirection := (Qualifier.ofCode r.indexDirection).getD .any
    recordIndex := r.recordIndex
    reference := r.reference
    quota := r.quota
    gate := (Gate.ofCode r.gateKind r.gateTrigger).getD .none }

/-- A host write to the location 0x18 + `k` of the record (R170, 11 section 11.6.3). -/
def AxisStaging.write (k : Fin 8) (d : Halfword) (r : AxisStaging) : AxisStaging :=
  match k with
  | 0 => { r with decodeMode := field d 0 3, invert := d.getLsbD 3, range := field d 4 2, recordWraps := d.getLsbD 6,
                  recordPhaseErrors := d.getLsbD 7, sampleClock := field d 8 2, filterLength := field d 10 4 }
  | 1 => { r with faultThreshold := field d 0 8, indexPolarity := d.getLsbD 8, gatePhase := field d 9 3,
                  indexDirection := field d 12 2, recordIndex := d.getLsbD 14 }
  | 2 => { r with modulus := withLow r.modulus d }
  | 3 => { r with modulus := withHigh r.modulus d }
  | 4 => { r with reference := withLow r.reference d }
  | 5 => { r with reference := withHigh r.reference d }
  | 6 => { r with quota := field d 0 8 }
  | 7 => { r with gateKind := field d 0 2, gateTrigger := field d 4 3 }

/-- What the location 0x18 + `k` presents (R170). -/
def AxisStaging.read (k : Fin 8) (r : AxisStaging) : Halfword :=
  match k with
  | 0 => place r.decodeMode 0 ||| placeBit r.invert 3 ||| place r.range 4 ||| placeBit r.recordWraps 6 |||
         placeBit r.recordPhaseErrors 7 ||| place r.sampleClock 8 ||| place r.filterLength 10
  | 1 => place r.faultThreshold 0 ||| placeBit r.indexPolarity 8 ||| place r.gatePhase 9 |||
         place r.indexDirection 12 ||| placeBit r.recordIndex 14
  | 2 => halfOf r.modulus 0
  | 3 => halfOf r.modulus 1
  | 4 => halfOf r.reference 0
  | 5 => halfOf r.reference 1
  | 6 => place r.quota 0
  | 7 => place r.gateKind 0 ||| place r.gateTrigger 4

/-! ## The entry staging list -/

/-- The number of the first check of R31 that the staged entry fails for an axis with this live configuration. -/
def StagedEntry.firstBad (c : AxisConfig) (e : StagedEntry) : Option Nat :=
  let linear := c.range = .linear
  ([ (1, (Qualifier.ofCode e.qualifier).isSome),
     (2, (OutputOp.ofCode e.op).isSome),
     (3, e.op = 0 || e.line.toNat < 8),
     (4, (RecordField.ofCode e.record).isSome),
     (5, e.count ≠ 0),
     (6, linear || inRevolution e.target c.modulus),
     (7, e.count = 1 || (e.stride ≠ 0 && (linear || e.stride.toInt.natAbs + 1 ≤ c.modulus.toNat))) ].find?
    (fun k : Nat × Bool => !k.2)).map (·.1)

/-- The entry record that an append step writes (R25, R41): the host fields, and the remaining count equal to the count.
A code that fails R31 reads as NONE or ANY here; R40 lets no such entry be appended. -/
def StagedEntry.toEntry (e : StagedEntry) : Entry :=
  { target := e.target
    qualifier := (Qualifier.ofCode e.qualifier).getD .any
    op := (OutputOp.ofCode e.op).getD .none
    line := e.line
    record := (RecordField.ofCode e.record).getD .none
    tag := e.tag
    count := e.count
    stride := e.stride
    deadlinePresent := e.deadlinePresent
    deadline := e.deadline
    remaining := e.count }

/-- A host write to the location 0x0D + `k` of the selected staged entry (R32, 11 section 11.6.2). -/
def StagedEntry.write (k : Fin 10) (d : Halfword) (e : StagedEntry) : StagedEntry :=
  match k with
  | 0 => { e with target := withLow e.target d }
  | 1 => { e with target := withHigh e.target d }
  | 2 => { e with qualifier := field d 0 2, op := field d 2 3, line := field d 5 4, record := field d 9 2,
                  deadlinePresent := d.getLsbD 15 }
  | 3 => { e with tag := field d 0 8 }
  | 4 => { e with count := d }
  | 5 => { e with stride := withLow e.stride d }
  | 6 => { e with stride := withHigh e.stride d }
  | 7 => { e with deadline := word48 d (halfOf e.deadline 1) (halfOf e.deadline 2) }
  | 8 => { e with deadline := word48 (halfOf e.deadline 0) d (halfOf e.deadline 2) }
  | 9 => { e with deadline := word48 (halfOf e.deadline 0) (halfOf e.deadline 1) d }

/-- What the location 0x0D + `k` presents of the selected staged entry (R32). -/
def StagedEntry.read (k : Fin 10) (e : StagedEntry) : Halfword :=
  match k with
  | 0 => halfOf e.target 0
  | 1 => halfOf e.target 1
  | 2 => place e.qualifier 0 ||| place e.op 2 ||| place e.line 5 ||| place e.record 9 ||| placeBit e.deadlinePresent 15
  | 3 => place e.tag 0
  | 4 => e.count
  | 5 => halfOf e.stride 0
  | 6 => halfOf e.stride 1
  | 7 => halfOf e.deadline 0
  | 8 => halfOf e.deadline 1
  | 9 => halfOf e.deadline 2

/-! ## Output lines and triggers -/

/-- The level that the pin shows (R90). -/
def Line.pin (l : Line) : Bool :=
  match l.state with
  | .static => l.staticLevel
  | .pulsing => l.pulseLevel
  | .deferred => l.pulseLevel
  | .gap => l.staticLevel

/-- What a line's configuration location presents (R106, 11 section 11.6.5). -/
def Line.configWord (l : Line) : Halfword :=
  placeBit l.pulseLevel 0 ||| place l.policy.code 1 ||| place l.gap 3 ||| place l.state.code 11 |||
  placeBit l.staticLevel 13 ||| placeBit l.pin 14

/-- A write to a line's configuration location: each of its three fields as that field allows (R102, R193). -/
def Line.writeConfig (d : Halfword) (l : Line) : Line :=
  { l with pulseLevel := d.getLsbD 0
           policy := (CollisionPolicy.ofCode (field d 1 2)).getD l.policy
           gap := if field d 3 8 = 0 then l.gap else field d 3 8 }

/-- A write to a line's width location (R101). -/
def Line.writeWidth (d : Halfword) (l : Line) : Line := { l with width := if d = 0 then l.width else d }

/-- The filtered level that the unit has handed on (R115): a change of the filter's level is handed on in the event that
takes it, so a change that is not yet taken is not seen [3]. -/
def Trigger.level (t : Trigger) : Bool := t.filter.level != t.changed

/-- What a trigger's configuration location presents (R119, 11 section 11.6.5). -/
def Trigger.configWord (t : Trigger) : Halfword :=
  place t.edge.code 0 ||| place t.filterLength 2 ||| place t.sampleClock.code 6 ||| placeBit t.snap 8 |||
  placeBit t.pulseEnable 9 ||| place (BitVec.ofNat 3 t.pulseLine.val) 10 ||| place t.state.code 13 |||
  placeBit t.level 14

/-- A write to a trigger's configuration location (R114). A change of the filter length or of the sample clock sets the
run count to 0; a change of the sample clock restarts the divider. -/
def Trigger.writeConfig (d : Halfword) (t : Trigger) : Trigger :=
  let length := field d 2 4
  let clock := SampleClock.ofCode (field d 6 2)
  { t with edge := EdgeSelect.ofCode (field d 0 2)
           filterLength := length
           sampleClock := clock
           snap := d.getLsbD 8
           pulseEnable := d.getLsbD 9
           pulseLine := Fin.ofNat 8 (field d 10 3).toNat
           filter := if length = t.filterLength ∧ clock = t.sampleClock then t.filter else { t.filter with run := 0 }
           divider := if clock = t.sampleClock then t.divider else .restart }

/-- What the sync configuration location presents (R132). -/
def Timebase.syncWord (t : Timebase) : Halfword :=
  place t.syncMode.code 0 ||| place t.syncEdge.code 1 ||| place t.syncState.code 8

/-! ## The encoding of a record -/

/-- The present mask of a gang capture: axis n counts 2 to the power n (R116, R118). -/
def Gang.mask (g : Gang) : BitVec 4 :=
  BitVec.ofBool g.positions[3].isSome ++ BitVec.ofBool g.positions[2].isSome ++
  BitVec.ofBool g.positions[1].isSome ++ BitVec.ofBool g.positions[0].isSome

/-- The positions of the axes that are present, in ascending axis order (R116). -/
def Gang.present (g : Gang) : List (BitVec 32) := g.positions.toList.reduceOption

/-- The halfwords of a value that may be absent. -/
def encodeOpt {α : Type} (f : α → List Halfword) : Option α → List Halfword
  | none => []
  | some x => f x

/-- Two halfwords, low first. -/
def halves32 (x : BitVec 32) : List Halfword := [halfOf x 0, halfOf x 1]

/-- Three halfwords, lowest first. -/
def halves48 (x : Time) : List Halfword := [halfOf x 0, halfOf x 1, halfOf x 2]

/-- The header halfword of a record (11 section 11.6.6). -/
def Content.header (c : Content) : Halfword :=
  place c.cause.code 0 ||| place (BitVec.ofNat 2 ((c.axis.map Fin.val).getD 0)) 4 ||| placeBit c.axis.isSome 6 |||
  placeBit c.position.isSome 7 ||| placeBit c.revolution.isSome 8 ||| placeBit c.gang.isSome 9 |||
  placeBit c.entry.isSome 10 ||| placeBit c.aux.isSome 11 ||| placeBit c.value32.isSome 12 |||
  placeBit c.value48.isSome 13

/-- The gang group: the mask, then each present position, low halfword first. -/
def Gang.encode (g : Gang) : List Halfword := place g.mask 0 :: g.present.flatMap halves32

/-- The entry group: slot in bits 7:0 and tag in bits 15:8, then the remaining count. -/
def EntryGroup.encode (e : EntryGroup) : List Halfword :=
  [place (BitVec.ofNat 8 e.slot.val) 0 ||| place e.tag 8, e.remaining]

/-- The encoding of a record, as an OPEN copies it into the view (R194). -/
def Record.encode (r : Record) : List Halfword :=
  let c := r.content
  c.header :: r.seq :: halves48 c.stamp ++ encodeOpt halves32 c.position ++ encodeOpt (fun x => [x]) c.revolution ++
    encodeOpt Gang.encode c.gang ++ encodeOpt EntryGroup.encode c.entry ++ encodeOpt (fun x => [x]) c.aux ++
    encodeOpt halves32 c.value32 ++ encodeOpt halves48 c.value48

end Sys2Proof.Machine
end

