-- ==== Sys2Proof/Machine/Flags.lean ====
section
/-! DEFINITION. The interrupt unit (10): the fourteen sticky flags, the condition JRNL_READY, the enables and IRQn. -/
namespace Sys2Proof.Machine

/-- The sticky flags (10 section 10.1). -/
inductive Flag where
  | cmdDone | cmdErr | cmdOverrun | jrnlLoss | syncDone | outCollide
  | axFault (n : AxisNo)
  | schedDry (n : AxisNo)
  deriving DecidableEq, Repr

/-- The flag number of 10 section 10.1, which is its bit number in FLAGS and ENABLE. -/
def Flag.number : Flag → Nat
  | .cmdDone => 0 | .cmdErr => 1 | .cmdOverrun => 2 | .jrnlLoss => 4 | .syncDone => 5 | .outCollide => 6
  | .axFault n => 7 + n.val
  | .schedDry n => 11 + n.val

/-- The position of JRNL_READY in FLAGS and ENABLE. -/
def readyNumber : Nat := 3

/-- The block that owns a cause sets its flag (R174). -/
def Interrupts.raise (f : Flag) (i : Interrupts) : Interrupts :=
  { i with flags := i.flags ||| BitVec.twoPow 15 f.number }

/-- `raise`, when the cause took place. -/
def Interrupts.raiseIf (c : Bool) (f : Flag) (i : Interrupts) : Interrupts := if c then i.raise f else i

/-- A host write to FLAGS clears each sticky flag whose position is 1 (R176). -/
def Interrupts.clear (d : Halfword) (i : Interrupts) : Interrupts := { i with flags := i.flags &&& ~~~(d.setWidth 15) }

/-- A host write to ENABLE stores the fifteen enables (R178). -/
def Interrupts.writeEnables (d : Halfword) (i : Interrupts) : Interrupts := { i with enables := d.setWidth 15 }

/-- The value of a sticky flag. -/
def Interrupts.isSet (f : Flag) (i : Interrupts) : Bool := i.flags.getLsbD f.number

/-- The ready condition of the journal (R153). -/
def Journal.ready (j : Journal) : Bool := j.threshold.toNat ≤ j.ring.length || (j.holdTime ≠ 0 && j.ageLatch)

/-- JRNL_READY presents the ready condition and is not stored (R175). -/
def State.journalReady (s : State) : Bool := s.journal.ready

/-- All fifteen flags as FLAGS presents them (R176). -/
def State.flagsWord (s : State) : BitVec 15 :=
  (s.interrupts.flags &&& ~~~(BitVec.twoPow 15 readyNumber)) |||
    (if s.journalReady then BitVec.twoPow 15 readyNumber else 0)

/-- IRQn is low while any flag and its enable are both 1 (R179). -/
def State.irqnLow (s : State) : Bool := s.flagsWord &&& s.interrupts.enables ≠ 0

end Sys2Proof.Machine
end

