-- ==== Sys2Proof/Machine/Journal.lean ====
section
/-! DEFINITION. The capture journal by itself (08): the fixed order of a moment (R137), the admission of a record (R138 to
R141), the reader (R144 to R147), and the host actions that may stand among the admissions of a moment (R142, R149). -/
namespace Sys2Proof.Machine

/-! ## Admission -/

/-- The place of a block in the fixed order of one moment (R137). -/
def Source.place : Source → Nat
  | .counter n => 3 * n.val
  | .indexUnit n => 3 * n.val + 1
  | .schedule n => 3 * n.val + 2
  | .trigger n => 12 + n.val
  | .timebase => 16
  | .engine => 17

/-- An offer joins the offers of its moment behind those of its own and of earlier places (R137). -/
def insertOffer (o : Offer) : List Offer → List Offer
  | [] => [o]
  | p :: ps => if o.source.place < p.source.place then o :: p :: ps else p :: insertOffer o ps

/-- The handling of one offered record under the mode (R138, R139, R141): the ring and the next sequence number after
it. -/
def admitOne (m : JournalMode) (r : List Record × BitVec 16) (c : Content) : List Record × BitVec 16 :=
  if r.1.length < Config.ringCapacity then (r.1 ++ [{ seq := r.2, content := c }], r.2 + 1)
  else match m with
    | .stop => r
    | .overwrite => (r.1.tail ++ [{ seq := r.2, content := c }], r.2 + 1)

/-- The removal of records, which leaves `rest`, and the LOSS record that is admitted at once after it (R140). -/
def Arbiter.remove (rest : List Record) (loss : Option Content) (a : Arbiter) : Arbiter :=
  match loss with
  | none => { a with ring := rest }
  | some c => { a with ring := rest ++ [{ seq := a.nextSeq, content := c }], nextSeq := a.nextSeq + 1 }

/-- One event of a moment, taken (R138 to R147, R157). -/
def Arbiter.take (e : JournalEvent) (a : Arbiter) : Arbiter :=
  match e with
  | .admission o =>
    let r := admitOne a.mode (a.ring, a.nextSeq) o.content
    { a with ring := r.1, nextSeq := r.2 }
  | .openOldest => { a with view := (a.ring.head?.map Record.encode).getD a.view }
  | .release loss => a.remove a.ring.tail loss
  | .discard loss => { a.remove [] loss with view := [] }
  | .setMode m => { a with mode := m }

/-- The events of a moment, taken one after another. -/
def Arbiter.replay (es : List JournalEvent) (a : Arbiter) : Arbiter := es.foldl (fun b e => b.take e) a

/-- The offers among the events of a moment, in the order in which they are admitted. -/
def offersOf : List JournalEvent → List Offer
  | [] => []
  | .admission o :: es => o :: offersOf es
  | _ :: es => offersOf es

/-- The events of a moment with other offers in the places of the admissions. The actions keep their places. -/
def refill : List JournalEvent → List Offer → List JournalEvent
  | .admission _ :: es, o :: os => .admission o :: refill es os
  | .admission o :: es, [] => .admission o :: refill es []
  | .openOldest :: es, os => .openOldest :: refill es os
  | .release l :: es, os => .release l :: refill es os
  | .discard l :: es, os => .discard l :: refill es os
  | .setMode m :: es, os => .setMode m :: refill es os
  | [], _ => []

/-- One more admission joins the events of a moment: the offers stand in the fixed order in the places of the admissions
(R137), and each action is taken after as many admissions as before (R149) [7] [15]. -/
def Moment.receive (o : Offer) (m : Moment) : Moment :=
  { m with events := refill (m.events ++ [.admission o]) (insertOffer o (offersOf m.events)) }

/-- The part of the journal that a moment moves. -/
def Journal.arbiter (j : Journal) : Arbiter := { ring := j.ring, nextSeq := j.nextSeq, mode := j.mode, view := j.view }

/-- The journal after an action among the admissions of a moment. -/
def Journal.act (e : JournalEvent) (j : Journal) : Journal :=
  let a := j.arbiter.take e
  { j with ring := a.ring
           nextSeq := a.nextSeq
           mode := a.mode
           view := a.view
           moment := { j.moment with events := j.moment.events ++ [e] } }

/-- No room for one more record (R138). -/
def Journal.full (j : Journal) : Bool := Config.ringCapacity ≤ j.ring.length

/-- The removal of the oldest record by an offer in OVERWRITE mode (R141). -/
def Journal.overwriting (j : Journal) : Bool := j.full && j.mode = .overwrite

/-- A block offers a record (R137 to R141). The ring is what the events of the moment so far, with its offers in the fixed
order, make of the journal at the start of the moment [7]. The pending-loss count or the overwrite counter rises when the
ring was full; an overwrite clears the opened mark (R152); the age timer starts with the first record and restarts at an
overwrite, and both clear the age latch (R154). -/
def Journal.offer (o : Offer) (j : Journal) : Journal :=
  let m := j.moment.receive o
  let a := m.start.replay m.events
  let oldestChanges := j.overwriting || j.ring.isEmpty
  { j with ring := a.ring
           nextSeq := a.nextSeq
           view := a.view
           moment := m
           pendingLoss := if j.full && j.mode = .stop then satInc j.pendingLoss else j.pendingLoss
           overwrites := if j.overwriting then satInc j.overwrites else j.overwrites
           openedMark := j.openedMark && !j.overwriting
           age := if oldestChanges then some .start else j.age
           ageLatch := j.ageLatch && !oldestChanges }

/-! ## The reader -/

/-- OPEN on a CLOSED reader with records in the ring: the oldest is encoded into the view (R145). -/
def Journal.openOldest (j : Journal) : Journal :=
  { j.act .openOldest with viewPointer := 0, openedMark := true, reader := .opened, lastAccess := .ok }

/-- The OPEN action (R145). -/
def Journal.open (j : Journal) : Journal :=
  match j.reader, j.ring with
  | .opened, _ => { j with lastAccess := .alreadyOpen }
  | .closed, [] => { j with lastAccess := .empty }
  | .closed, _ :: _ => j.openOldest

/-- The LOSS record that a removal from a STOP-mode journal with losses pending admits (R140). -/
def Journal.lossRecord (stamp : Time) (j : Journal) : Option Content :=
  if j.mode = .stop ∧ j.pendingLoss ≠ 0 then
    some { cause := .loss, stamp := stamp, value32 := some (j.pendingLoss.setWidth 32) }
  else none

/-- The pending-loss count returns to 0 in a removal from a STOP-mode journal (R140). -/
def Journal.clearLosses (j : Journal) : Journal := { j with pendingLoss := if j.mode = .stop then 0 else j.pendingLoss }

/-- After a removal the age timer restarts or starts while records remain, and stops otherwise; either clears the latch
(R154). -/
def Journal.restartAge (j : Journal) : Journal :=
  { j with age := if j.ring.isEmpty then none else some .start, ageLatch := false }

/-- The RELEASE action (R146). -/
def Journal.release (stamp : Time) (j : Journal) : Journal :=
  match j.reader, j.openedMark with
  | .closed, _ => { j with lastAccess := .notOpen }
  | .opened, false => { j with reader := .closed, lastAccess := .stale }
  | .opened, true =>
    ({ j.act (.release (j.lossRecord stamp)) with
        openedMark := false, reader := .closed, lastAccess := .ok : Journal }).clearLosses.restartAge

/-- The DISCARD action (R147). -/
def Journal.discard (stamp : Time) (j : Journal) : Journal :=
  ({ j.act (.discard (j.lossRecord stamp)) with
      openedMark := false, reader := .closed, viewPointer := 0, lastAccess := .ok : Journal }).clearLosses.restartAge

/-! ## The host actions -/

/-- The effect of a host action on the journal (R142, R145, R146, R147). -/
def Journal.perform (j : Journal) (stamp : Time) (a : HostAction) : Journal :=
  match a with
  | .openRecord => j.open
  | .release => j.release stamp
  | .discard => j.discard stamp
  | .readOverwrites => { j with overwrites := 0 }

/-- The value that a host action drives on D (R142, R183). -/
def Journal.driven (j : Journal) (a : HostAction) : Option Halfword :=
  match a with
  | .readOverwrites => some j.overwrites
  | .openRecord | .release | .discard => none

end Sys2Proof.Machine
end

