-- ==== Sys2Proof/Machine/Ops.lean ====
section
/-! DEFINITION. The operations that several commands share: access to the units of the part, the reset gate, the offer of a
record (R137 to R141, R149), requests to output lines (R92 to R98), the gang capture (R116), the way of an entry out of its
schedule (R36, R58, R61), and the issue and completion of a command (R163 to R167). -/
namespace Sys2Proof.Machine

/-! ## Units of the part -/

/-- An update of every unit of one kind. -/
def eachUnit {α β : Type} {n : Nat} (f : α → β) (v : Vector α n) : Vector β n := Vector.ofFn fun i => f v[i]

def State.axis (s : State) (n : AxisNo) : Axis := s.axes[n]

def State.setAxis (n : AxisNo) (x : Axis) (s : State) : State := { s with axes := s.axes.set n x }

def State.schedule (s : State) (n : AxisNo) : Schedule := s.schedules[n]

def State.setSchedule (n : AxisNo) (x : Schedule) (s : State) : State := { s with schedules := s.schedules.set n x }

def State.line (s : State) (l : LineNo) : Line := s.lines[l]

def State.setLine (l : LineNo) (x : Line) (s : State) : State := { s with lines := s.lines.set l x }

def State.trigger (s : State) (n : TriggerNo) : Trigger := s.triggers[n]

def State.setTrigger (n : TriggerNo) (x : Trigger) (s : State) : State := { s with triggers := s.triggers.set n x }

def State.setTimebase (x : Timebase) (s : State) : State := { s with timebase := x }

def State.setJournal (x : Journal) (s : State) : State := { s with journal := x }

def State.setEngine (x : Engine) (s : State) : State := { s with engine := x }

def State.setInterrupts (x : Interrupts) (s : State) : State := { s with interrupts := x }

def State.setBus (x : BusInterface) (s : State) : State := { s with bus := x }

def State.setPool (x : Pool) (s : State) : State := { s with pool := x }

/-- The entry record in a slot of the pool. -/
def State.entry (s : State) (k : Slot) : Entry := s.pool.entries[k]

/-- The time at the moment an event is taken is the timestamp of the records that it offers (R121). -/
def State.now (s : State) : Time := s.timebase.time

/-- A block sets a flag in the event of its cause (R174). -/
def State.raise (f : Flag) (s : State) : State := s.setInterrupts (s.interrupts.raise f)

/-- While RESETn is asserted no host access and no event is taken (R133, R173, R185) [6]. -/
def State.outsideReset (f : State → State) (s : State) : State := if s.inReset then s else f s

/-- The answer of a command whose effect is `f`. -/
def answer (f : State → State) (s : State) : Host.Outcome State Fault Refusal := .next (s.outsideReset f)

/-! ## Admission to the journal -/

/-- A host action at the journal is taken, where there is one (R142, R145 to R147). -/
def State.perform (a : Option HostAction) (s : State) : State :=
  { s with journal := a.elim s.journal (s.journal.perform s.now)
           bus := { s.bus with dataOut := (a.bind s.journal.driven).or s.bus.dataOut } }

/-- A block offers a record; a loss and an overwrite set JRNL_LOSS (R139, R141). -/
def State.offer (src : Source) (c : Content) (s : State) : State :=
  { s with journal := s.journal.offer { source := src, content := c }
           interrupts := s.interrupts.raiseIf s.journal.full .jrnlLoss }

/-- `offer`, when the configuration asks for the record. -/
def State.offerIf (b : Bool) (src : Source) (c : Content) (s : State) : State := if b then s.offer src c else s

/-! ## Requests to output lines -/

/-- The four kinds of request (R99). -/
inductive RequestKind where
  | pulse | set | clear | toggle
  deriving DecidableEq, Repr

/-- A pulse start loads the width timer with the width (R91). -/
def Line.startPulse (l : Line) : Line :=
  { l with state := .pulsing, widthTimer := some (Config.ticksPerInterval * l.width.toNat), gapTimer := none }

/-- A level request ends whatever is in progress and sets the static level (R98). -/
def Line.setLevel (level : Bool) (l : Line) : Line :=
  { l with state := .static, staticLevel := level, widthTimer := none, gapTimer := none }

/-- A PULSE request that collides is counted, and then the collision policy decides (R93 to R96). -/
def Line.collide (l : Line) : Line :=
  let c := { l with collisions := satInc l.collisions }
  match l.state, l.policy with
  | .pulsing, .restart => { c with widthTimer := some (Config.ticksPerInterval * l.width.toNat) }
  | .pulsing, .defer => { c with state := .deferred }
  | _, _ => c

/-- A request is a collision when it is a PULSE on a line that is not STATIC (R93). -/
def Line.collides (k : RequestKind) (l : Line) : Bool := k = .pulse && l.state ≠ .static

/-- A line takes a request as one event (R92 to R98). -/
def Line.take (k : RequestKind) (l : Line) : Line :=
  match k with
  | .pulse => if l.state = .static then l.startPulse else l.collide
  | .set => l.setLevel true
  | .clear => l.setLevel false
  | .toggle => l.setLevel (!l.staticLevel)

/-- A source sends a request to a line; a collision sets OUT_COLLIDE (R93, R99). -/
def State.request (l : LineNo) (k : RequestKind) (s : State) : State :=
  { s with lines := s.lines.set l ((s.line l).take k)
           interrupts := s.interrupts.raiseIf ((s.line l).collides k) .outCollide }

/-! ## The gang capture -/

/-- An axis is present when it is COUNTING or FAULTED (R116). -/
def Axis.gangPosition (a : Axis) : Option (BitVec 32) := if a.state = .stopped then none else some a.position

/-- The gang capture of the present event (R116). -/
def State.gang (s : State) : Gang := { positions := eachUnit Axis.gangPosition s.axes }

/-- The revolution group stands on ROTARY axes (R134). -/
def Axis.revolutionGroup (a : Axis) : Option (BitVec 16) := if a.config.range = .rotary then some a.revolution else none

/-! ## Schedules -/

/-- The schedule state of R46. -/
inductive ScheduleState where
  | empty | active | held | draining
  deriving DecidableEq, Repr

/-- R192: 0 EMPTY, 1 ACTIVE, 2 HELD, 3 DRAINING. -/
def ScheduleState.code : ScheduleState → BitVec 2
  | .empty => 0 | .active => 1 | .held => 2 | .draining => 3

/-- The schedule state, in the order of precedence of R46. -/
def Schedule.state (c : Schedule) : ScheduleState :=
  if c.draining then .draining
  else if c.list = [] then .empty
  else match c.runMode with
    | .run => .active
    | .hold => .held

/-- The head slot goes to the tail of the free list (R35, R36). -/
def State.returnHead (n : AxisNo) (s : State) : State :=
  match (s.schedule n).list with
  | [] => s
  | k :: rest => (s.setSchedule n { s.schedule n with list := rest }).setPool { s.pool with free := s.pool.free ++ [k] }

/-- The head leaves by retirement, expiry or skip: its slot returns to the pool, and either the schedule has run dry
(R73) or the deadline of the new head is taken up (R60). -/
def State.departHead (n : AxisNo) (s : State) : State :=
  let t := s.returnHead n
  { t with schedules := t.schedules.set n { t.schedule n with compareDue := (t.schedule n).compareDue ||
                                                                !(t.schedule n).list.isEmpty }
           interrupts := t.interrupts.raiseIf (t.schedule n).list.isEmpty (.schedDry n) }

/-- The comparison of the head's deadline is taken up at the schedule of one axis (R60). -/
def State.takeUp (n : AxisNo) (s : State) : State := s.setSchedule n { s.schedule n with compareDue := true }

/-- The comparison is taken up at all four schedules: the time has advanced or was loaded (R60). -/
def State.takeUpAll (s : State) : State := { s with schedules := eachUnit ({ · with compareDue := true }) s.schedules }

/-- The timebase takes a new value, which is handed to the four schedules (R125, R129). -/
def State.loadTime (v : Time) (s : State) : State := (s.setTimebase { s.timebase with time := v }).takeUpAll

/-- A position load: no step, no arrival (R54, R83). The revolution count is given with it. -/
def Axis.load (p : BitVec 32) (r : BitVec 16) (a : Axis) : Axis := { a with position := p, revolution := r }

/-! ## The command engine -/

/-- The commands of 09 section 9.9. -/
inductive Command where
  | schedAppend | schedSkip | schedFlush | schedHold | schedRun
  | axisConfig | axisStart | axisStop | axisResume | axisSetpos | axisClrerr | axisReset
  | homeArm | homeCancel
  | outSet | outClear | outToggle | outPulse
  | timeSet | syncArm | syncDisarm | snapshot | chipReset
  deriving DecidableEq, Repr

/-- The opcode of a command (09 section 9.9). -/
def Command.code : Command → BitVec 8
  | .schedAppend => 0x01 | .schedSkip => 0x02 | .schedFlush => 0x03 | .schedHold => 0x04 | .schedRun => 0x05
  | .axisConfig => 0x10 | .axisStart => 0x11 | .axisStop => 0x12 | .axisResume => 0x13 | .axisSetpos => 0x14
  | .axisClrerr => 0x15 | .axisReset => 0x16 | .homeArm => 0x18 | .homeCancel => 0x19
  | .outSet => 0x20 | .outClear => 0x21 | .outToggle => 0x22 | .outPulse => 0x23
  | .timeSet => 0x30 | .syncArm => 0x31 | .syncDisarm => 0x32 | .snapshot => 0x40 | .chipReset => 0x7F

/-- Every command, in the order of the table. -/
def Command.all : List Command :=
  [.schedAppend, .schedSkip, .schedFlush, .schedHold, .schedRun, .axisConfig, .axisStart, .axisStop, .axisResume,
   .axisSetpos, .axisClrerr, .axisReset, .homeArm, .homeCancel, .outSet, .outClear, .outToggle, .outPulse, .timeSet,
   .syncArm, .syncDisarm, .snapshot, .chipReset]

/-- The command that an opcode names (R164). -/
def Command.ofOpcode (o : BitVec 8) : Option Command := Command.all.find? (fun c => c.code = o)

/-- How many unit numbers pass the common check: four axes, eight lines, or any number where the field is not used
(R164). -/
def Command.units : Command → Nat
  | .outSet | .outClear | .outToggle | .outPulse => 8
  | .timeSet | .syncArm | .syncDisarm | .snapshot | .chipReset => 16
  | _ => 4

/-- The command word (11 section 11.6.1): opcode in bits 7:0, unit number in bits 11:8. -/
def commandWord (c : Command) (u : UnitNo) : Halfword := place c.code 0 ||| place u 8

/-- The axis that a unit number names, once it has passed the common check (R164). -/
def axisOf (u : UnitNo) : AxisNo := Fin.ofNat 4 u.toNat

/-- The output line that a unit number names, once it has passed the common check (R164). -/
def lineOf (u : UnitNo) : LineNo := Fin.ofNat 8 u.toNat

/-- A command completes (R166): the result is stored, CMD_DONE is set, CMD_ERR too when the code is not OK, and the engine
is IDLE. -/
def State.complete (code : ResultCode) (detail aux : BitVec 16) (s : State) : State :=
  { s with engine := { s.engine with phase := .idle, result := code, detail := detail, aux := aux }
           interrupts := (s.interrupts.raise .cmdDone).raiseIf (code ≠ .ok) .cmdErr }

/-- The engine stores the command word and copies the arguments, and is EXECUTING (R162, R163). -/
def Engine.issue (d : Halfword) (e : Engine) : Engine :=
  { e with phase := .issued, opcode := field d 0 8, unit := field d 8 4, argCopy := e.args }

/-- A host write to the command location (R163, R164, R167): an overrun while EXECUTING; otherwise an issue, which
completes at once when a common check fails. -/
def State.commandWrite (d : Halfword) (s : State) : State :=
  if s.engine.phase ≠ .idle then s.raise .cmdOverrun
  else
    let t := s.setEngine (s.engine.issue d)
    match Command.ofOpcode t.engine.opcode with
    | none => t.complete .badOpcode (t.engine.opcode.setWidth 16) 0
    | some c => if t.engine.unit.toNat < c.units then t else t.complete .badArg 65535 (t.engine.unit.setWidth 16)

/-- The command `c` for the unit `u` has been issued and its owning block has not taken it (R165). -/
def State.awaits (c : Command) (u : UnitNo) (s : State) : Bool :=
  s.engine.phase = .issued && s.engine.opcode = c.code && s.engine.unit = u

/-- A command row of the table (R163 to R167) [13]. When the command has been issued and waits, its owner takes it. When
the engine is IDLE, the host's write and, if the common checks pass, the owner's event fall in this step. Otherwise the
write is an overrun. -/
def State.carryOut (c : Command) (u : UnitNo) (owner : State → State) (s : State) : State :=
  if s.awaits c u then owner s
  else
    let t := s.commandWrite (commandWord c u)
    if s.engine.phase = .idle ∧ t.awaits c u then owner t else t

/-- Argument `k` of the argument copy (R162). -/
def State.arg (s : State) (k : Fin 4) : Halfword := s.engine.argCopy[k]

/-! ## Host accesses -/

/-- A read access drives a value on D (R183). -/
def State.drive (v : Halfword) (s : State) : State := s.setBus { s.bus with dataOut := some v }

end Sys2Proof.Machine
end

