-- ==== Sys2Proof/Machine/Clock.lean ====
section
/-! DEFINITION. The timebase (07): its event of a tick, rate trim, loads and the SYNC input. -/
namespace Sys2Proof.Machine

/-! ## The time -/

/-- The next tick is the adjusted tick of a trim interval (R122). -/
def Timebase.adjusts (t : Timebase) : Bool := t.trimMode ≠ .off && t.interval.toNat ≤ t.intervalCount + 1

/-- How far the next tick advances the time (R121, R122). -/
def Timebase.advance (t : Timebase) : Nat :=
  if t.adjusts then (if t.trimMode = .add then 2 else 0) else 1

/-- The timebase's event of a tick (R121, R122). -/
def Timebase.tick (t : Timebase) : Timebase :=
  { t with time := t.time + BitVec.ofNat 48 t.advance
           intervalCount := if t.adjusts ∨ t.trimMode = .off then 0 else t.intervalCount + 1
           adds := if t.adjusts ∧ t.trimMode = .add then satInc t.adds else t.adds
           skips := if t.adjusts ∧ t.trimMode = .skip then satInc t.skips else t.skips }

/-! ## Rate trim -/

/-- The staged trim interval lies in 16 to 16,777,216 (R123). -/
def Timebase.stagedValid (t : Timebase) : Bool :=
  Config.minTrimInterval ≤ t.stagedInterval.toNat && t.stagedInterval.toNat ≤ Config.maxTrimInterval

/-- A host write to the trim mode location, judged as one event (R123). -/
def Timebase.writeTrimMode (d : Halfword) (t : Timebase) : Timebase :=
  match TrimMode.ofCode (field d 0 2) with
  | none => t
  | some .off =>
    { t with trimMode := .off, intervalCount := 0, interval := if t.stagedValid then t.stagedInterval else t.interval }
  | some m => if t.stagedValid then { t with trimMode := m, interval := t.stagedInterval, intervalCount := 0 } else t

def State.writeTrimMode (d : Halfword) (s : State) : State := s.setTimebase (s.timebase.writeTrimMode d)

/-- TRIM_MODE_WRITE (R123). -/
def execTrimModeWrite (d : Halfword) (s : State) : Host.Outcome State Fault Refusal := answer (State.writeTrimMode d) s

/-- A host write to the low or the high half of the staged trim interval (R123). -/
def State.writeInterval (high : Bool) (d : Halfword) (s : State) : State :=
  let t := s.timebase
  s.setTimebase { t with stagedInterval := if high then withHigh t.stagedInterval d else withLow t.stagedInterval d }

/-- A host read of the adds counter returns it and sets it to 0 (R124). -/
def State.readAdds (s : State) : State := (s.setTimebase { s.timebase with adds := 0 }).drive s.timebase.adds

/-- ADDS_COUNTER_READ (R124). -/
def execAddsCounterRead (s : State) : Host.Outcome State Fault Refusal := answer State.readAdds s

/-- A host read of the skips counter returns it and sets it to 0 (R124). -/
def State.readSkips (s : State) : State := (s.setTimebase { s.timebase with skips := 0 }).drive s.timebase.skips

/-- SKIPS_COUNTER_READ (R124). -/
def execSkipsCounterRead (s : State) : Host.Outcome State Fault Refusal := answer State.readSkips s

/-! ## Loads and SYNC -/

/-- The 48-bit value of ARG0 to ARG2 (R125, R130). -/
def State.timeArg (s : State) : Time := word48 (s.arg 0) (s.arg 1) (s.arg 2)

/-- The owner's event of TIME_SET (R125): the load, and the TIMESET record stamped with the loaded value. -/
def State.setTime (s : State) : State :=
  ((s.loadTime s.timeArg).offer .timebase
    { cause := .timeset, stamp := s.timeArg, value48 := some s.now }).complete .ok 0 0

/-- TIME_SET (R125). -/
def execTimeSet (u : UnitNo) (s : State) : Host.Outcome State Fault Refusal :=
  answer (State.carryOut .timeSet u State.setTime) s

/-- The owner's event of SYNC_ARM (R130): detail is the code of the sync state before. -/
def State.armSync (s : State) : State :=
  (s.setTimebase { s.timebase with loadValue := s.timeArg, syncState := .armed }).complete .ok
    (s.timebase.syncState.code.setWidth 16) 0

/-- SYNC_ARM (R130). -/
def execSyncArm (u : UnitNo) (s : State) : Host.Outcome State Fault Refusal :=
  answer (State.carryOut .syncArm u State.armSync) s

/-- The owner's event of SYNC_DISARM (R130). -/
def State.disarmSync (s : State) : State :=
  match s.timebase.syncState with
  | .free => s.complete .wrongState 0 0
  | .armed => (s.setTimebase { s.timebase with syncState := .free }).complete .ok 1 0

/-- SYNC_DISARM (R130). -/
def execSyncDisarm (u : UnitNo) (s : State) : Host.Outcome State Fault Refusal :=
  answer (State.carryOut .syncDisarm u State.disarmSync) s

/-- The armed load (R129): the time takes the load value, a SYNC record with value48 is offered, the part is FREE, and
SYNC_DONE is set. -/
def State.armedLoad (s : State) : State :=
  let v := s.timebase.loadValue
  let t := (s.loadTime v).offer .timebase { cause := .sync, stamp := v, value48 := some s.now }
  (t.setTimebase { t.timebase with syncState := .free }).raise .syncDone

/-- The change of the filtered SYNC level just made is a SYNC edge (R127). -/
def Timebase.isEdge (t : Timebase) : Bool :=
  match t.syncEdge with
  | .rise => t.filter.level
  | .fall => !t.filter.level

/-- A SYNC edge (R128, R129). -/
def State.takeSync (s : State) : State :=
  match s.timebase.syncState with
  | .armed => s.armedLoad
  | .free => s.offerIf (s.timebase.syncMode = .capture) .timebase { cause := .sync, stamp := s.now }

/-- The timebase takes the change of the filtered SYNC level of the latest sample point, where there is one (R127). The time at
the edge is the time as its event finds it: a load of the time taken in between is a load taken first (R126). -/
def State.takeSyncChange (s : State) : State :=
  if s.timebase.changed then
    let t := s.setTimebase { s.timebase with changed := false }
    if s.timebase.isEdge then t.takeSync else t
  else s

/-- SYNC_EDGE (R127) [3]. -/
def execSyncEdge (s : State) : Host.Outcome State Fault Refusal := answer State.takeSyncChange s

/-- A host write to the sync configuration location (R127). -/
def State.writeSyncConfig (d : Halfword) (s : State) : State :=
  s.setTimebase
    { s.timebase with syncMode := SyncMode.ofBit (d.getLsbD 0), syncEdge := SyncEdge.ofBit (d.getLsbD 1) }

/-- SYNC_CONFIG_WRITE (R127). -/
def execSyncConfigWrite (d : Halfword) (s : State) : Host.Outcome State Fault Refusal :=
  answer (State.writeSyncConfig d) s

end Sys2Proof.Machine
end

