-- ==== Sys2Proof/Machine/Schedules.lean ====
section
/-! DEFINITION. Compare entries, the entry pool and the compare schedules (02, 03): arrivals and fires, deadlines, and the
commands SCHED_APPEND, SCHED_SKIP, SCHED_FLUSH, SCHED_HOLD and SCHED_RUN with their steps. -/
namespace Sys2Proof.Machine

/-! ## Arrivals and fires -/

/-- The gate is open (R49): the schedule reads the level that the trigger unit has handed on (R115). -/
def State.gateOpen (g : Gate) (s : State) : Bool :=
  match g with
  | .none => true
  | .onLevel t high => (s.trigger t).level = high

/-- The live condition (R51). -/
def State.liveCondition (n : AxisNo) (s : State) : Bool :=
  (s.schedule n).state = .active && s.gateOpen (s.axis n).config.gate && (s.axis n).state = .counting

/-- The request that an output op names (R27). -/
def OutputOp.request : OutputOp → Option RequestKind
  | .none => Option.none
  | .pulse => some .pulse
  | .set => some .set
  | .clear => some .clear
  | .toggle => some .toggle

/-- The target after a fire that leaves the entry in its schedule (R57). -/
def AxisConfig.advance (c : AxisConfig) (target stride : BitVec 32) : BitVec 32 :=
  match c.range with
  | .linear => target + stride
  | .rotary => BitVec.ofInt 32 ((target.toInt + stride.toInt) % (c.modulus.toNat : Int))

/-- The record that a schedule offers for an entry: COMPARE (R56), stamped with the time at the sample point of the step,
and EXPIRED (R61), stamped with the time of the event. -/
def State.entryRecord (cause : Cause) (stamp : Time) (n : AxisNo) (k : Slot) (remaining : BitVec 16) (gang : Option Gang)
    (s : State) : Content :=
  { cause := cause, axis := some n, stamp := stamp, position := some (s.axis n).position,
    revolution := (s.axis n).revolutionGroup, gang := gang,
    entry := some { slot := k, tag := (s.entry k).tag, remaining := remaining } }

/-- Step 1 of a fire: the request of the output op (R55). -/
def State.sendOutput (e : Entry) (s : State) : State :=
  match e.op.request with
  | none => s
  | some k => s.request (Fin.ofNat 8 e.line.toNat) k

/-- The entry record in a slot is written. -/
def State.setEntry (k : Slot) (e : Entry) (s : State) : State :=
  s.setPool { s.pool with entries := s.pool.entries.set k e }

/-- A fire (R55): the request, the COMPARE record, and then the retirement of the entry (R58) or the advance of its
target (R57). -/
def State.fire (n : AxisNo) (k : Slot) (s : State) : State :=
  let e := s.entry k
  let left := e.remaining - 1
  let gang := if e.record = .gang then some s.gang else none
  let t := (s.sendOutput e).offerIf (e.record ≠ .none) (.schedule n) (s.entryRecord .compare (s.axis n).sampledAt n k left gang)
  if left = 0 then (t.setEntry k { e with remaining := left }).departHead n
  else t.setEntry k { e with remaining := left, target := (s.axis n).config.advance e.target e.stride }

/-- The schedule judges an arrival, made of the position and the direction that the step has given to its axis (R52). At
most the head fires (R53). -/
def State.arrival (n : AxisNo) (s : State) : State :=
  match (s.schedule n).list with
  | [] => s
  | k :: _ =>
    let e := s.entry k
    if s.liveCondition n ∧ (s.axis n).position = e.target ∧ e.qualifier.accepts (s.axis n).direction then s.fire n k
    else s

/-! ## Deadlines -/

/-- Evaluation takes place (R59): the head has a deadline, the schedule is ACTIVE or HELD, and the axis is not
FAULTED. -/
def State.evaluates (n : AxisNo) (k : Slot) (s : State) : Bool :=
  (s.entry k).deadlinePresent && !(s.schedule n).draining && (s.axis n).state ≠ .faulted

/-- An expiry (R61): an EXPIRED record, no output op, and the head leaves. -/
def State.expire (n : AxisNo) (k : Slot) (s : State) : State :=
  (s.offer (.schedule n) (s.entryRecord .expired s.now n k (s.entry k).remaining none)).departHead n

/-- The comparison event (R60): it judges the head, the conditions and the time as they stand. -/
def State.compareDeadline (n : AxisNo) (s : State) : State :=
  let t := s.setSchedule n { s.schedule n with compareDue := false }
  match (s.schedule n).list with
  | [] => t
  | k :: _ => if s.evaluates n k ∧ (s.entry k).deadline.toNat ≤ s.now.toNat then t.expire n k else t

/-- DEADLINE_COMPARISON: taken when a comparison is taken up (R60) [9]. -/
def execDeadlineComparison (n : AxisNo) (s : State) : Host.Outcome State Fault Refusal :=
  answer (fun s => if (s.schedule n).compareDue then s.compareDeadline n else s) s

/-! ## SCHED_APPEND -/

/-- The lowest staging slot of the batch whose entry fails a check, with the number of the check (R40, check 2). -/
def Engine.badEntry (c : AxisConfig) (first n : Nat) (e : Engine) : Option (Nat × Nat) :=
  (List.range' first n).findSome? (fun i => ((e.staged[Fin.ofNat 8 i]).firstBad c).map (fun k => (i, k)))

/-- The owner's checks of SCHED_APPEND in the order of R40: the result, detail and aux of the first that fails. -/
def State.appendRefusal (n : AxisNo) (s : State) : Option (ResultCode × BitVec 16 × BitVec 16) :=
  let first := (s.arg 0).toNat
  let count := (s.arg 1).toNat
  let config := (s.axis n).config
  let length := (s.schedule n).list.length
  if 7 < first then some (.badArg, 0, 0)
  else if count = 0 ∨ 8 < count ∨ 8 < first + count then some (.badArg, 1, 0)
  else match s.engine.badEntry config first count with
    | some (i, k) => some (.badEntry, half i, half k)
    | none =>
      if config.quota.toNat < length + count then some (.schedFull, half length, half config.quota.toNat)
      else if s.pool.free.length < count then some (.poolEmpty, half s.pool.free.length, 0)
      else none

/-- The owner's event of SCHED_APPEND (R40): a check fails, or the batch is accepted. -/
def State.acceptAppend (n : AxisNo) (s : State) : State :=
  match s.appendRefusal n with
  | some (code, detail, aux) => s.complete code detail aux
  | none =>
    s.setEngine { s.engine with
      phase := .appending { next := (s.arg 0).toNat, left := (s.arg 1).toNat, first := none } }

/-- SCHED_APPEND (R40). -/
def execSchedAppend (u : UnitNo) (s : State) : Host.Outcome State Fault Refusal :=
  answer (State.carryOut .schedAppend u (State.acceptAppend (axisOf u))) s

/-- One append step (R41): the head of the free list takes the staged entry and joins the tail of the schedule. An entry
that joins an empty schedule is head, and its deadline is taken up (R60). -/
def State.appendEntry (p : AppendProgress) (k : Slot) (rest : List Slot) (s : State) : State :=
  let n := axisOf s.engine.unit
  let c := s.schedule n
  let e := (s.engine.staged[Fin.ofNat 8 p.next]).toEntry
  ((s.setPool { free := rest, entries := s.pool.entries.set k e }).setSchedule n
      { c with list := c.list ++ [k], compareDue := c.compareDue || c.list.isEmpty }).setEngine
    { s.engine with phase := .appending { next := p.next + 1, left := p.left - 1, first := some (p.first.getD k) } }

/-- APPEND_STEP (R41), taken while an accepted append has entries left. R40 makes sure of a free slot; without one the
machine stops [12]. -/
def execAppendStep (s : State) : Host.Outcome State Fault Refusal :=
  match s.inReset, s.engine.phase with
  | false, .appending p =>
    if p.left = 0 then .next s
    else match s.pool.free with
      | [] => .fault .poolExhausted
      | k :: rest => .next (s.appendEntry p k rest)
  | _, _ => .next s

/-- The completion of an append (R43): detail is the slot that the first step took, aux the length of the schedule. -/
def State.completeAppend (s : State) : State :=
  match s.engine.phase with
  | .appending p =>
    if p.left = 0 then
      s.complete .ok (half ((p.first.map Fin.val).getD 0)) (half (s.schedule (axisOf s.engine.unit)).list.length)
    else s
  | _ => s

/-- APPEND_COMPLETION (R43), taken after the last append step. -/
def execAppendCompletion (s : State) : Host.Outcome State Fault Refusal := answer State.completeAppend s

/-! ## SCHED_SKIP, SCHED_HOLD, SCHED_RUN -/

/-- The owner's event of SCHED_SKIP (R66). -/
def State.skipHead (n : AxisNo) (s : State) : State :=
  match (s.schedule n).list with
  | [] => s.complete .wrongState 0 0
  | k :: rest => (s.departHead n).complete .ok (half k.val) (half rest.length)

/-- SCHED_SKIP (R66). -/
def execSchedSkip (u : UnitNo) (s : State) : Host.Outcome State Fault Refusal :=
  answer (State.carryOut .schedSkip u (State.skipHead (axisOf u))) s

/-- The owner's event of SCHED_HOLD and SCHED_RUN (R47): detail is the run mode before the command. -/
def State.setRunMode (m : RunMode) (n : AxisNo) (s : State) : State :=
  let c := s.schedule n
  (s.setSchedule n { c with runMode := m }).complete .ok (c.runMode.code.setWidth 16) (half c.list.length)

/-- SCHED_HOLD (R47). -/
def execSchedHold (u : UnitNo) (s : State) : Host.Outcome State Fault Refusal :=
  answer (State.carryOut .schedHold u (State.setRunMode .hold (axisOf u))) s

/-- SCHED_RUN (R47). -/
def execSchedRun (u : UnitNo) (s : State) : Host.Outcome State Fault Refusal :=
  answer (State.carryOut .schedRun u (State.setRunMode .run (axisOf u))) s

/-! ## SCHED_FLUSH -/

/-- The owner's event of SCHED_FLUSH (R68): it completes at once on an EMPTY schedule, and begins the drain of another. -/
def State.acceptFlush (n : AxisNo) (s : State) : State :=
  let c := s.schedule n
  if c.list = [] then s.complete .ok 0 0
  else (s.setSchedule n { c with draining := true }).setEngine { s.engine with phase := .flushing c.list.length }

/-- SCHED_FLUSH (R68). -/
def execSchedFlush (u : UnitNo) (s : State) : Host.Outcome State Fault Refusal :=
  answer (State.carryOut .schedFlush u (State.acceptFlush (axisOf u))) s

/-- FLUSH_STEP (R70), taken while a flush has entries left: the head leaves, and the deadline of the next is not taken
up. -/
def execFlushStep (s : State) : Host.Outcome State Fault Refusal :=
  answer (fun s => match s.engine.phase with
    | .flushing _ => s.returnHead (axisOf s.engine.unit)
    | _ => s) s

/-- The completion of a flush (R71). -/
def State.completeFlush (total : Nat) (s : State) : State :=
  let n := axisOf s.engine.unit
  ((s.setSchedule n { s.schedule n with draining := false }).offer (.schedule n)
      { cause := .flushed, axis := some n, stamp := s.now, value32 := some (BitVec.ofNat 32 total) }).complete
    .ok (half total) 0

/-- FLUSH_COMPLETION (R71), taken after the last flush step. -/
def execFlushCompletion (s : State) : Host.Outcome State Fault Refusal :=
  answer (fun s => match s.engine.phase with
    | .flushing total => if (s.schedule (axisOf s.engine.unit)).list = [] then s.completeFlush total else s
    | _ => s) s

end Sys2Proof.Machine
end

