-- ==== Sys2Proof/Machine/Counting.lean ====
section
/-! DEFINITION. Position counting (01): the input filters, the decoder, phase errors and faults, and the axis commands. -/
namespace Sys2Proof.Machine

/-! ## Input filters -/

/-- One sample point of a filter of length `len` at a raw level (R1). The first sample point after pin reset takes the raw
value (R23). -/
def Filter.sample (len : Nat) (raw : Bool) (f : Filter) : Filter :=
  if f.fresh then { level := raw, run := 0, fresh := false }
  else if raw = f.level then { f with run := 0 }
  else if len + 1 ≤ f.run + 1 then { f with level := raw, run := 0 }
  else { f with run := f.run + 1 }

/-- The filtered value changes at this sample point. The first value after pin reset is no change (R77, R109, R133). -/
def Filter.changes (len : Nat) (raw : Bool) (f : Filter) : Bool := !f.fresh && (f.sample len raw).level ≠ f.level

/-- A sample point of an axis at the time `now`: its three lines together (R2). -/
def Axis.sample (now : Time) (a b z : Bool) (x : Axis) : Axis :=
  let len := x.config.filterLength.toNat
  { x with filterA := x.filterA.sample len a
           filterB := x.filterB.sample len b
           filterZ := x.filterZ.sample len z
           zChanged := x.filterZ.changes len z
           sampledAt := now
           divider := { x.divider with due := false } }

/-- A sample point of a trigger at the time `now` (R108). -/
def Trigger.sample (now : Time) (raw : Bool) (t : Trigger) : Trigger :=
  let len := t.filterLength.toNat
  { t with filter := t.filter.sample len raw
           changed := t.filter.changes len raw
           sampledAt := now
           divider := { t.divider with due := false } }

/-- A sample point of SYNC (R127). -/
def Timebase.sample (raw : Bool) (t : Timebase) : Timebase :=
  { t with filter := t.filter.sample Config.syncFilterLength raw
           changed := t.filter.changes Config.syncFilterLength raw
           sampleDue := false }

/-- The latest tick that the counters of CLKIN counted reached a sample point of these lines, and it has not been taken
(R2, R108, R127) [3]. -/
def State.sampleDue (f : FilterInput) (s : State) : Bool :=
  match f with
  | .axis n _ _ _ => (s.axis n).divider.due
  | .trigger n _ => (s.trigger n).divider.due
  | .sync _ => s.timebase.sampleDue

/-- The filters examine these lines (R1). -/
def State.takeSample (f : FilterInput) (s : State) : State :=
  match f with
  | .axis n a b z => s.setAxis n ((s.axis n).sample s.now a b z)
  | .trigger n raw => s.setTrigger n ((s.trigger n).sample s.now raw)
  | .sync raw => s.setTimebase (s.timebase.sample raw)

/-! ## The decoder -/

/-- The filtered (A,B) of an axis. -/
def Axis.filtered (x : Axis) : LinePair := { a := x.filterA.level, b := x.filterB.level }

/-- The outcome of an evaluation, before inversion (R3). -/
inductive Decoded where
  | plus | minus | noStep | phaseError | cancelled
  deriving DecidableEq, Repr

/-- The raw direction of a change of exactly one line (R4): true is forward. -/
def rawForward (old new : LinePair) : Bool := if old.a ≠ new.a then new.a ≠ new.b else new.a = new.b

/-- The table of R4: which legal changes a quadrature mode counts. -/
def quadCounts (m : DecodeMode) (old new : LinePair) : Bool :=
  match m with
  | .quadX4 => true
  | .quadX2 => old.a ≠ new.a
  | .quadX1 => old.a ≠ new.a && !new.b
  | _ => false

/-- A quadrature mode applied to the old and the new pair (R4, R11). -/
def decodeQuad (m : DecodeMode) (old new : LinePair) : Decoded :=
  if old.a ≠ new.a ∧ old.b ≠ new.b then .phaseError
  else if quadCounts m old new then (if rawForward old new then .plus else .minus)
  else .noStep

/-- STEP_DIR (R5): a rising A steps, by the new B. -/
def decodeStepDir (old new : LinePair) : Decoded :=
  if !old.a && new.a then (if new.b then .minus else .plus) else .noStep

/-- UP_DOWN (R6): a rising A counts up, a rising B down, both together cancel. -/
def decodeUpDown (old new : LinePair) : Decoded :=
  match !old.a && new.a, !old.b && new.b with
  | true, true => .cancelled
  | true, false => .plus
  | false, true => .minus
  | false, false => .noStep

/-- The decode mode applied to the old and the new pair (R3). -/
def decode (m : DecodeMode) (old new : LinePair) : Decoded :=
  match m with
  | .quadX4 => decodeQuad .quadX4 old new
  | .quadX2 => decodeQuad .quadX2 old new
  | .quadX1 => decodeQuad .quadX1 old new
  | .stepDir => decodeStepDir old new
  | .upDown => decodeUpDown old new

/-- The direction of a step of +1 (`plus`) or -1 after inversion (R7). -/
def stepDirection (invert plus : Bool) : Direction := if plus = invert then .reverse else .forward

/-- A LINEAR step that wraps the position (R8). -/
def Axis.wraps (d : Direction) (x : Axis) : Bool :=
  x.config.range = .linear &&
    match d with
    | .forward => x.position = 0x7FFFFFFF
    | .reverse => x.position = 0x80000000

/-- The position, revolution count and last direction after a step (R7, R8, R9). -/
def Axis.move (d : Direction) (x : Axis) : Axis :=
  match x.config.range, d with
  | .linear, .forward => { x with position := x.position + 1, direction := d }
  | .linear, .reverse => { x with position := x.position - 1, direction := d }
  | .rotary, .forward =>
    if x.position = x.config.modulus - 1 then { x with position := 0, revolution := x.revolution + 1, direction := d }
    else { x with position := x.position + 1, direction := d }
  | .rotary, .reverse =>
    if x.position = 0 then
      { x with position := x.config.modulus - 1, revolution := x.revolution - 1, direction := d }
    else { x with position := x.position - 1, direction := d }

/-- A counting step (R10): the position moves, a wrap may be recorded, and the arrival is handed to the schedule. The host
action `h` is taken after the admission of the counter's record (R149) [15]. -/
def State.countStep (n : AxisNo) (h : Option HostAction) (d : Direction) (s : State) : State :=
  let x := s.axis n
  let y := x.move d
  (((s.setAxis n y).offerIf (x.wraps d && x.config.recordWraps) (.counter n)
    { cause := .wrap, axis := some n, stamp := x.sampledAt, position := some y.position,
      aux := some (d.code.setWidth 16) }).perform h).arrival n

/-- The phase error faults the axis: it brings the count since resume to the threshold (R12). -/
def Axis.faults (x : Axis) : Bool :=
  x.config.faultThreshold ≠ 0 && x.errorSince ≠ 255 && x.errorSince + 1 = x.config.faultThreshold

/-- The record of a phase error or a fault (R11, R12). -/
def State.errorRecord (cause : Cause) (n : AxisNo) (value : BitVec 32) (s : State) : Content :=
  { cause := cause, axis := some n, stamp := (s.axis n).sampledAt, position := some (s.axis n).position,
    revolution := (s.axis n).revolutionGroup, value32 := some value }

/-- A phase error (R11), and the fault that it may cause (R12). The host action `h` is taken after the admission of the
PHASE_ERR record (R149) [15]. -/
def State.phaseError (n : AxisNo) (h : Option HostAction) (s : State) : State :=
  let x := s.axis n
  let y := { x with errorTotal := satInc x.errorTotal, errorSince := satInc x.errorSince,
                    state := if x.faults then .faulted else x.state }
  let t := ((s.setAxis n y).offerIf x.config.recordPhaseErrors (.counter n)
    (s.errorRecord .phaseErr n (y.errorTotal.setWidth 32))).perform h
  if x.faults then (t.offer (.counter n) (s.errorRecord .fault n (y.errorSince.setWidth 32))).raise (.axFault n) else t

/-- The evaluation of a sample point (R3): the decoder phase takes the new pair, and the outcome acts. -/
def State.evaluate (e : AxisEvent) (s : State) : State :=
  let x := s.axis e.axis
  let t := s.setAxis e.axis { x with phase := x.filtered }
  match decode x.config.decodeMode x.phase x.filtered with
  | .plus => t.countStep e.axis e.between (stepDirection x.config.invert true)
  | .minus => t.countStep e.axis e.between (stepDirection x.config.invert false)
  | .phaseError => t.phaseError e.axis e.between
  | .noStep => t.perform e.between
  | .cancelled => t.perform e.between

/-- The decoder evaluates: the axis is COUNTING and the filtered (A,B) differs from the decoder phase (R3). -/
def Axis.toEvaluate (x : Axis) : Bool := x.state = .counting && x.filtered ≠ x.phase

/-- The decoder's event, where a sample point has made one (R3). A host action that the event carries is taken with it or
without it. -/
def State.takeEvaluation (e : AxisEvent) (s : State) : State :=
  if (s.axis e.axis).toEvaluate then s.evaluate e else s.perform e.between

/-- DECODER_EVALUATION (R3). -/
def execDecoderEvaluation (e : AxisEvent) (s : State) : Host.Outcome State Fault Refusal :=
  answer (State.takeEvaluation e) s

/-! ## Axis commands -/

/-- The owner's event of AXIS_START (R14). A change of filtered Z that is not taken stands: its event falls in the same
moment and follows the command, and it finds the axis COUNTING (R86). -/
def State.startAxis (n : AxisNo) (s : State) : State :=
  let x := s.axis n
  if x.state = .stopped then (s.setAxis n { x with state := .counting, phase := x.filtered }).complete .ok 0 0
  else s.complete .wrongState 0 0

/-- AXIS_START (R14). -/
def execAxisStart (u : UnitNo) (s : State) : Host.Outcome State Fault Refusal :=
  answer (State.carryOut .axisStart u (State.startAxis (axisOf u))) s

/-- The owner's event of AXIS_STOP (R15). The end of a FAULTED state takes up the head's deadline (R60). -/
def State.stopAxis (n : AxisNo) (s : State) : State :=
  let x := s.axis n
  let t := s.setAxis n { x with state := .stopped, errorSince := 0 }
  match x.state with
  | .stopped => s.complete .wrongState 0 0
  | .counting => t.complete .ok 0 0
  | .faulted => (t.takeUp n).complete .ok 0 0

/-- AXIS_STOP (R15). -/
def execAxisStop (u : UnitNo) (s : State) : Host.Outcome State Fault Refusal :=
  answer (State.carryOut .axisStop u (State.stopAxis (axisOf u))) s

/-- The owner's event of AXIS_RESUME (R16). The end of the FAULTED state takes up the head's deadline (R60). A change of
filtered Z that is not taken stands, as at AXIS_START (R86). -/
def State.resumeAxis (n : AxisNo) (s : State) : State :=
  let x := s.axis n
  if x.state = .faulted then
    ((s.setAxis n { x with state := .counting, phase := x.filtered, errorSince := 0 }).takeUp n).complete .ok 0 0
  else s.complete .wrongState 0 0

/-- AXIS_RESUME (R16). -/
def execAxisResume (u : UnitNo) (s : State) : Host.Outcome State Fault Refusal :=
  answer (State.carryOut .axisResume u (State.resumeAxis (axisOf u))) s

/-- The owner's event of AXIS_CLRERR (R17). -/
def State.clearErrors (n : AxisNo) (s : State) : State :=
  (s.setAxis n { s.axis n with errorTotal := 0, errorSince := 0 }).complete .ok 0 0

/-- AXIS_CLRERR (R17). -/
def execAxisClrerr (u : UnitNo) (s : State) : Host.Outcome State Fault Refusal :=
  answer (State.carryOut .axisClrerr u (State.clearErrors (axisOf u))) s

/-- The owner's event of AXIS_SETPOS (R18). -/
def State.setPosition (n : AxisNo) (s : State) : State :=
  let x := s.axis n
  let v := word32 (s.arg 0) (s.arg 1)
  match x.config.range with
  | .linear => (s.setAxis n (x.load v x.revolution)).complete .ok 0 0
  | .rotary =>
    if inRevolution v x.config.modulus then (s.setAxis n (x.load v 0)).complete .ok 0 0 else s.complete .badArg 0 0

/-- AXIS_SETPOS (R18). -/
def execAxisSetpos (u : UnitNo) (s : State) : Host.Outcome State Fault Refusal :=
  answer (State.carryOut .axisSetpos u (State.setPosition (axisOf u))) s

/-- A filter whose run count returns to 0 and which keeps its filtered value. -/
def Filter.clearRun (f : Filter) : Filter := { f with run := 0 }

/-- The configuration takes effect on an axis (R21): the run counts return to 0, the divider restarts, and a change of
range or of a rotary modulus sets the position and the revolution count to 0. A change of filtered Z is not judged under a
configuration that it was not made under (R77). -/
def Axis.configure (c : AxisConfig) (x : Axis) : Axis :=
  let load := c.range ≠ x.config.range || (c.range = .rotary && c.modulus ≠ x.config.modulus)
  { x with config := c
           position := if load then 0 else x.position
           revolution := if load then 0 else x.revolution
           filterA := x.filterA.clearRun
           filterB := x.filterB.clearRun
           filterZ := x.filterZ.clearRun
           divider := .restart
           zChanged := false }

/-- The owner's event of AXIS_CONFIG (R20, R21). -/
def State.configureAxis (n : AxisNo) (s : State) : State :=
  let x := s.axis n
  if x.state ≠ .stopped ∨ (s.schedule n).list ≠ [] ∨ (s.schedule n).draining then s.complete .wrongState 0 0
  else match s.engine.axisStaging.firstBad with
    | some k => s.complete .badArg (half k) 0
    | none => (s.setAxis n (x.configure s.engine.axisStaging.toConfig)).complete .ok 0 0

/-- AXIS_CONFIG (R20). -/
def execAxisConfig (u : UnitNo) (s : State) : Host.Outcome State Fault Refusal :=
  answer (State.carryOut .axisConfig u (State.configureAxis (axisOf u))) s

/-- An axis at its reset values with its filtered values kept (R22, R23, R88). -/
def Axis.resetKeeping (x : Axis) : Axis :=
  { Axis.reset with filterA := x.filterA.clearRun, filterB := x.filterB.clearRun, filterZ := x.filterZ.clearRun }

/-- The owner's event of AXIS_RESET (R22, R75, R88): the axis and its schedule return to their reset values, and the slots
of the schedule join the tail of the free list, oldest first. -/
def State.resetAxis (n : AxisNo) (s : State) : State :=
  (((s.setAxis n (s.axis n).resetKeeping).setSchedule n Schedule.reset).setPool
    { s.pool with free := s.pool.free ++ (s.schedule n).list }).complete .ok 0 0

/-- AXIS_RESET (R22). -/
def execAxisReset (u : UnitNo) (s : State) : Host.Outcome State Fault Refusal :=
  answer (State.carryOut .axisReset u (State.resetAxis (axisOf u))) s

end Sys2Proof.Machine
end

