-- ==== Sys2Proof/Machine/Commands.lean ====
section
/-! DEFINITION. The command engine (09): COMMAND_WRITE, the argument locations, the two staging areas, and the resets of the
whole part (PIN_RESET, RESETN_RELEASE, CHIP_RESET). -/
namespace Sys2Proof.Machine

/-- COMMAND_WRITE: a host write to the command location (R163, R164, R167). A command that it issues is taken by its own
row of the table [13]. -/
def execCommandWrite (d : Halfword) (s : State) : Host.Outcome State Fault Refusal := answer (State.commandWrite d) s

/-- A host write to ARG0 to ARG3 (R162). -/
def State.writeArg (k : Fin 4) (d : Halfword) (s : State) : State :=
  s.setEngine { s.engine with args := s.engine.args.set k d }

/-- An accepted SCHED_APPEND executes: host writes to the entry staging list are ignored (R33). -/
def Engine.appending (e : Engine) : Bool :=
  match e.phase with
  | .appending _ => true
  | _ => false

/-- An AXIS_CONFIG executes: host writes to the axis configuration staging record are ignored (R170). -/
def Engine.configuring (e : Engine) : Bool := e.phase ≠ .idle && e.opcode = Command.axisConfig.code

/-- A host write to STAGE_SEL, judged on the whole halfword (R32, R33). -/
def State.writeStageSel (d : Halfword) (s : State) : State :=
  if s.engine.appending ∨ 7 < d.toNat then s
  else s.setEngine { s.engine with stageSel := Fin.ofNat 8 d.toNat }

/-- STAGE_SEL_WRITE (R32). -/
def execStageSelWrite (d : Halfword) (s : State) : Host.Outcome State Fault Refusal := answer (State.writeStageSel d) s

/-- The staged entry that the selection names (R32). -/
def Engine.selected (e : Engine) : StagedEntry := e.staged[e.stageSel]

/-- A host write to a staged entry location (R32, R33). -/
def State.writeStaged (k : Fin 10) (d : Halfword) (s : State) : State :=
  if s.engine.appending then s
  else s.setEngine
    { s.engine with staged := s.engine.staged.set s.engine.stageSel (s.engine.selected.write k d) }

/-- STAGED_ENTRY_WRITE (R33). -/
def execStagedEntryWrite (k : Fin 10) (d : Halfword) (s : State) : Host.Outcome State Fault Refusal :=
  answer (State.writeStaged k d) s

/-- A host write to the axis configuration staging record (R170). -/
def State.writeAxisStaging (k : Fin 8) (d : Halfword) (s : State) : State :=
  if s.engine.configuring then s
  else s.setEngine { s.engine with axisStaging := s.engine.axisStaging.write k d }

/-- AXIS_STAGING_WRITE (R170). -/
def execAxisStagingWrite (k : Fin 8) (d : Halfword) (s : State) : Host.Outcome State Fault Refusal :=
  answer (State.writeAxisStaging k d) s

/-! ## Resets of the whole part -/

/-- PIN_RESET (R23, R173): RESETn is asserted, and every block takes its pin-reset values. -/
def execPinReset (s : State) : Host.Outcome State Fault Refusal :=
  .next { State.reset with inReset := true, pending := s.pending }

/-- RESETN_RELEASE (R23, R133, R185): RESETn is released. Every filter takes the raw value at its first sample point, and the
time advances from the next tick. -/
def execResetnRelease (s : State) : Host.Outcome State Fault Refusal := .next { s with inReset := false }

/-- A trigger at its reset values with its filtered level kept (R120). -/
def Trigger.resetKeeping (t : Trigger) : Trigger := { Trigger.reset with filter := t.filter.clearRun }

/-- The timebase at its reset values with the filtered SYNC level kept (R133). SYNC has a sample point at every tick (R127),
and no divider that restarts: one of the present tick that has not been taken may still be, on the run count of 0 (R172). -/
def Timebase.resetKeeping (t : Timebase) : Timebase :=
  { Timebase.reset with filter := t.filter.clearRun, sampleDue := t.sampleDue }

/-- The CHIP_RESET event (R171): every block takes its CHIP_RESET values, and the command completes with OK. -/
def State.resetChip (s : State) : State :=
  State.complete .ok 0 0
    { State.reset with
      axes := eachUnit Axis.resetKeeping s.axes
      triggers := eachUnit Trigger.resetKeeping s.triggers
      timebase := s.timebase.resetKeeping
      engine := { Engine.reset with opcode := s.engine.opcode, unit := s.engine.unit }
      bus := { BusInterface.reset with dataOut := s.bus.dataOut }
      inReset := s.inReset
      counted := s.counted
      pending := s.pending }

/-- CHIP_RESET (R171). -/
def execChipReset (u : UnitNo) (s : State) : Host.Outcome State Fault Refusal :=
  answer (State.carryOut .chipReset u State.resetChip) s

end Sys2Proof.Machine
end

