-- ==== Sys2Proof/Machine/Homing.lean ====
section
/-! DEFINITION. Index and homing (04): the qualification of an index, the reference load, HOME_ARM and HOME_CANCEL. -/
namespace Sys2Proof.Machine

/-- The change of filtered Z just made is an active edge under the index polarity (R77). -/
def Axis.activeEdge (x : Axis) : Bool :=
  match x.config.indexPolarity with
  | .highGoing => x.filterZ.level
  | .lowGoing => !x.filterZ.level

/-- The gate phase test (R78), on the filtered (A,B) of the sample point. -/
def Axis.gatePhasePasses (x : Axis) : Bool :=
  match x.config.gatePhase with
  | none => true
  | some p => x.filterA.level = p.a && x.filterB.level = p.b

/-- An active edge on a COUNTING axis that passes both tests is a qualified index (R77, R78). -/
def Axis.qualifiedIndex (x : Axis) : Bool :=
  x.state = .counting && x.activeEdge && x.gatePhasePasses && x.config.indexDirection.accepts x.direction

/-- The INDEX record (R80). -/
def State.indexRecord (n : AxisNo) (s : State) : Content :=
  let x := s.axis n
  { cause := .index, axis := some n, stamp := x.sampledAt, position := some x.position, revolution := x.revolutionGroup,
    aux := some (({ a := x.filterA.level, b := x.filterB.level : LinePair }.code).setWidth 16) }

/-- Steps 2 to 4 of a homing load (R82). -/
def State.homingLoad (n : AxisNo) (s : State) : State :=
  let x := s.axis n
  let y := { x.load x.config.reference 0 with homing := .referenced }
  (s.setAxis n y).offer (.indexUnit n)
    { cause := .homed, axis := some n, stamp := x.sampledAt, position := some y.position, revolution := y.revolutionGroup,
      value32 := some x.position }

/-- A qualified index (R80, R82). The host action `h` is taken after the admission of the INDEX record (R149) [15]. -/
def State.takeIndex (n : AxisNo) (h : Option HostAction) (s : State) : State :=
  let x := s.axis n
  let t := (s.offerIf x.config.recordIndex (.indexUnit n) (s.indexRecord n)).perform h
  if x.homing = .seeking then t.homingLoad n else t

/-- The index unit takes the change of filtered Z of the latest sample point, where there is one (R77). A host action that
the event carries is taken with it or without it. -/
def State.takeZChange (e : AxisEvent) (s : State) : State :=
  let x := s.axis e.axis
  if x.zChanged then
    let t := s.setAxis e.axis { x with zChanged := false }
    if x.qualifiedIndex then t.takeIndex e.axis e.between else t.perform e.between
  else s.perform e.between

/-- INDEX_EDGE (R77) [3]. -/
def execIndexEdge (e : AxisEvent) (s : State) : Host.Outcome State Fault Refusal := answer (State.takeZChange e) s

/-- The owner's event of HOME_ARM (R84): detail is the code of the homing state before. -/
def State.armHoming (n : AxisNo) (s : State) : State :=
  let x := s.axis n
  let before := x.homing.code.setWidth 16
  if x.homing = .seeking then s.complete .wrongState before 0
  else (s.setAxis n { x with homing := .seeking }).complete .ok before 0

/-- HOME_ARM (R84). -/
def execHomeArm (u : UnitNo) (s : State) : Host.Outcome State Fault Refusal :=
  answer (State.carryOut .homeArm u (State.armHoming (axisOf u))) s

/-- The owner's event of HOME_CANCEL (R85): detail is the code of the homing state before. -/
def State.cancelHoming (n : AxisNo) (s : State) : State :=
  let x := s.axis n
  let before := x.homing.code.setWidth 16
  if x.homing = .seeking then (s.setAxis n { x with homing := .unreferenced }).complete .ok before 0
  else s.complete .wrongState before 0

/-- HOME_CANCEL (R85). -/
def execHomeCancel (u : UnitNo) (s : State) : Host.Outcome State Fault Refusal :=
  answer (State.carryOut .homeCancel u (State.cancelHoming (axisOf u))) s

end Sys2Proof.Machine
end

