-- ==== Sys2Proof/Machine/Outputs.lean ====
section
/-! DEFINITION. Output lines (05): the expiries of their timers, the OUT_ commands, their configuration writes, and the
read of the collision counter. -/
namespace Sys2Proof.Machine

/-- The width timer expires (R92, R97): PULSING ends STATIC, DEFERRED goes to GAP with the gap timer loaded. -/
def Line.expireWidth (l : Line) : Line :=
  match l.state with
  | .pulsing => { l with state := .static, widthTimer := none }
  | .deferred =>
    { l with state := .gap, widthTimer := none, gapTimer := some (Config.ticksPerInterval * l.gap.toNat) }
  | .static => l
  | .gap => l

/-- The gap timer expires in GAP: the deferred pulse starts (R97). -/
def Line.expireGap (l : Line) : Line := if l.state = .gap then l.startPulse else l

/-- The width timer of a line has counted its full length (R91). -/
def State.widthOver (l : LineNo) (s : State) : Bool := (s.line l).widthTimer = some 0

/-- The gap timer of a line has counted its full length (R91). -/
def State.gapOver (l : LineNo) (s : State) : Bool := (s.line l).gapTimer = some 0

/-- The expiry of the width timer at the line (R92, R97). -/
def State.expireWidth (l : LineNo) (s : State) : State := s.setLine l (s.line l).expireWidth

/-- The expiry of the gap timer at the line (R97). -/
def State.expireGap (l : LineNo) (s : State) : State := s.setLine l (s.line l).expireGap

/-- The owner's event of an OUT_ command (R100): detail is the code of the line state before the request, aux is 1 when
the request was counted as a collision. -/
def State.outCommand (k : RequestKind) (l : LineNo) (s : State) : State :=
  let before := s.line l
  (s.request l k).complete .ok (before.state.code.setWidth 16) ((BitVec.ofBool (before.collides k)).setWidth 16)

/-- OUT_SET (R98, R100). -/
def execOutSet (u : UnitNo) (s : State) : Host.Outcome State Fault Refusal :=
  answer (State.carryOut .outSet u (State.outCommand .set (lineOf u))) s

/-- OUT_CLEAR (R98, R100). -/
def execOutClear (u : UnitNo) (s : State) : Host.Outcome State Fault Refusal :=
  answer (State.carryOut .outClear u (State.outCommand .clear (lineOf u))) s

/-- OUT_TOGGLE (R98, R100). -/
def execOutToggle (u : UnitNo) (s : State) : Host.Outcome State Fault Refusal :=
  answer (State.carryOut .outToggle u (State.outCommand .toggle (lineOf u))) s

/-- OUT_PULSE (R100). -/
def execOutPulse (u : UnitNo) (s : State) : Host.Outcome State Fault Refusal :=
  answer (State.carryOut .outPulse u (State.outCommand .pulse (lineOf u))) s

/-- A host write to a line's configuration location (R102). -/
def State.writeLineConfig (l : LineNo) (d : Halfword) (s : State) : State := s.setLine l ((s.line l).writeConfig d)

/-- LINE_CONFIG_WRITE (R102). -/
def execLineConfigWrite (l : LineNo) (d : Halfword) (s : State) : Host.Outcome State Fault Refusal :=
  answer (State.writeLineConfig l d) s

/-- A host write to a line's width location (R101). -/
def State.writeLineWidth (l : LineNo) (d : Halfword) (s : State) : State := s.setLine l ((s.line l).writeWidth d)

/-- WIDTH_WRITE (R101). -/
def execWidthWrite (l : LineNo) (d : Halfword) (s : State) : Host.Outcome State Fault Refusal :=
  answer (State.writeLineWidth l d) s

/-- A host read of a line's collision counter returns it and sets it to 0 (R105). -/
def State.readCollisions (l : LineNo) (s : State) : State :=
  (s.setLine l { s.line l with collisions := 0 }).drive (s.line l).collisions

/-- COLLISION_COUNTER_READ (R105). -/
def execCollisionCounterRead (l : LineNo) (s : State) : Host.Outcome State Fault Refusal :=
  answer (State.readCollisions l) s

end Sys2Proof.Machine
end

