-- ==== Sys2Proof/Machine/Reader.lean ====
section
/-! DEFINITION. The capture journal as the host drives it (08): the reader actions, the view, the age latch and
the configuration. -/
namespace Sys2Proof.Machine

/-- OPEN (R145), taken after as many admissions of its moment as there are so far (R149) [15]. -/
def execReaderOpen (s : State) : Host.Outcome State Fault Refusal := answer (State.perform (some .openRecord)) s

/-- RELEASE (R146), taken after as many admissions of its moment as there are so far (R149) [15]. -/
def execReaderRelease (s : State) : Host.Outcome State Fault Refusal := answer (State.perform (some .release)) s

/-- DISCARD (R147), taken after as many admissions of its moment as there are so far (R149) [15]. -/
def execReaderDiscard (s : State) : Host.Outcome State Fault Refusal := answer (State.perform (some .discard)) s

/-- A host write to JCTRL (R148): 1 OPEN, 2 RELEASE, 3 DISCARD; any other halfword is ignored. -/
def State.writeControl (d : Halfword) (s : State) : State :=
  if d = 1 then s.perform (some .openRecord)
  else if d = 2 then s.perform (some .release)
  else if d = 3 then s.perform (some .discard)
  else s

/-- A write to JCFG, judged whole (R157). -/
def Journal.configure (d : Halfword) (j : Journal) : Journal :=
  let threshold : BitVec 7 := field d 0 7
  let mode := JournalMode.ofBit (d.getLsbD 8)
  if threshold.toNat < 1 ∨ Config.ringCapacity < threshold.toNat ∨ (mode ≠ j.mode ∧ j.ring ≠ []) then
    { j with lastAccess := .cfgRefused }
  else { j.act (.setMode mode) with threshold := threshold, lastAccess := .ok }

/-- A host write to JCFG (R157). -/
def State.writeJournalConfig (d : Halfword) (s : State) : State := s.setJournal (s.journal.configure d)

/-- JCFG_WRITE (R157). -/
def execJcfgWrite (d : Halfword) (s : State) : Host.Outcome State Fault Refusal := answer (State.writeJournalConfig d) s

/-- The running count of the age timer has come to a hold time of 1 or more (R155) [16]. -/
def Journal.aged (hold : BitVec 16) (j : Journal) : Bool :=
  match j.age with
  | none => false
  | some a => hold ≠ 0 && hold.toNat ≤ a.count.toNat

/-- A write to JHOLD stores the hold time and may set the age latch (R155, R156). -/
def Journal.writeHold (d : Halfword) (j : Journal) : Journal :=
  { j with holdTime := d, ageLatch := j.ageLatch || j.aged d }

/-- A host write to JHOLD (R156). -/
def State.writeHoldTime (d : Halfword) (s : State) : State := s.setJournal (s.journal.writeHold d)

/-- JHOLD_WRITE (R156). -/
def execJholdWrite (d : Halfword) (s : State) : Host.Outcome State Fault Refusal := answer (State.writeHoldTime d) s

/-- The running count has reached the hold time (R155) [16]. -/
def State.aged (s : State) : Bool := s.journal.aged s.journal.holdTime

/-- The age latch is set (R155). -/
def State.setAgeLatch (s : State) : State := s.setJournal { s.journal with ageLatch := true }

/-- The halfword of the view at the read pointer, or 0 past its length (R150). -/
def Journal.viewData (j : Journal) : Halfword := (j.view[j.viewPointer]?).getD 0

/-- A host read of VIEW_DATA: the pointer advances and stops at 32 (R150). -/
def State.readView (s : State) : State :=
  let j := s.journal
  (s.setJournal { j with viewPointer := min (j.viewPointer + 1) Config.viewCapacity }).drive j.viewData

/-- VIEW_DATA_READ (R150). -/
def execViewDataRead (s : State) : Host.Outcome State Fault Refusal := answer State.readView s

/-- A host write to the view pointer location stores a pointer of 0 to 32 (R151, R193). -/
def State.writeViewPointer (d : Halfword) (s : State) : State :=
  let p := (field d 0 6 : BitVec 6).toNat
  if p ≤ Config.viewCapacity then s.setJournal { s.journal with viewPointer := p } else s

/-- VIEW_POINTER_WRITE (R151). -/
def execViewPointerWrite (d : Halfword) (s : State) : Host.Outcome State Fault Refusal :=
  answer (State.writeViewPointer d) s

/-- A host read of the overwrite count returns it and sets it to 0 (R142). -/
def State.readOverwrites (s : State) : State := s.perform (some .readOverwrites)

/-- OVERWRITE_COUNT_READ (R142). -/
def execOverwriteCountRead (s : State) : Host.Outcome State Fault Refusal := answer State.readOverwrites s

end Sys2Proof.Machine
end

