-- ==== Sys2Proof/Machine/Triggers.lean ====
section
/-! DEFINITION. Trigger inputs and the SNAPSHOT command (06). -/
namespace Sys2Proof.Machine

/-- The change of the filtered level just made is an edge under the edge select (R109). -/
def Trigger.isEdge (t : Trigger) : Bool :=
  match t.edge with
  | .off => false
  | .rise => t.filter.level
  | .fall => !t.filter.level
  | .both => true

/-- The TRIGGER record (R111), stamped with the time at the sample point of the change (R108): aux is 256 times
the trigger number plus the suppressed-edge count. -/
def State.triggerRecord (n : TriggerNo) (s : State) : Content :=
  { cause := .trigger, stamp := (s.trigger n).sampledAt, gang := some s.gang,
    aux := some (half (256 * n.val + (s.trigger n).suppressed.toNat)) }

/-- Steps 3 and 4 of an edge in READY (R110): the count is cleared, and a holdoff of 1 or more starts. -/
def Trigger.startHoldoff (t : Trigger) : Trigger :=
  if t.holdoff = 0 then { t with suppressed := 0 }
  else { t with suppressed := 0, state := .holdoff, timer := some (Config.ticksPerInterval * t.holdoff.toNat) }

/-- An edge in READY (R110): the record, the request, and then the count and the holdoff. -/
def State.readyEdge (n : TriggerNo) (s : State) : State :=
  let t := s.trigger n
  let r := s.offerIf t.snap (.trigger n) (s.triggerRecord n)
  let q := if t.pulseEnable then r.request t.pulseLine .pulse else r
  q.setTrigger n t.startHoldoff

/-- An edge is acted on in READY and counted in HOLDOFF (R110, R113). -/
def State.takeEdge (n : TriggerNo) (s : State) : State :=
  match (s.trigger n).state with
  | .ready => s.readyEdge n
  | .holdoff => s.setTrigger n { s.trigger n with suppressed := satInc (s.trigger n).suppressed }

/-- The unit takes the change of its filtered level of the latest sample point, where there is one (R108, R109), and hands the
new level on in the same event (R115). -/
def State.takeLevelChange (n : TriggerNo) (s : State) : State :=
  if (s.trigger n).changed then
    let t := s.setTrigger n { s.trigger n with changed := false }
    if (s.trigger n).isEdge then t.takeEdge n else t
  else s

/-- TRIGGER_LEVEL_CHANGE (R108, R109, R115) [3]. -/
def execTriggerLevelChange (n : TriggerNo) (s : State) : Host.Outcome State Fault Refusal :=
  answer (State.takeLevelChange n) s

/-- The holdoff timer of a trigger has counted its length (R112). -/
def State.holdoffOver (n : TriggerNo) (s : State) : Bool := (s.trigger n).timer = some 0

/-- The expiry of the holdoff timer: the trigger returns to READY and the timer stops (R112). -/
def State.expireHoldoff (n : TriggerNo) (s : State) : State :=
  s.setTrigger n { s.trigger n with state := .ready, timer := none }

/-- A host write to a trigger's configuration location (R114). -/
def State.writeTriggerConfig (n : TriggerNo) (d : Halfword) (s : State) : State :=
  s.setTrigger n ((s.trigger n).writeConfig d)

/-- TRIGGER_CONFIG_WRITE (R114). -/
def execTriggerConfigWrite (n : TriggerNo) (d : Halfword) (s : State) : Host.Outcome State Fault Refusal :=
  answer (State.writeTriggerConfig n d) s

/-- A host write to a trigger's holdoff location (R114). -/
def State.writeHoldoff (n : TriggerNo) (d : Halfword) (s : State) : State :=
  s.setTrigger n { s.trigger n with holdoff := d }

/-- HOLDOFF_WRITE (R114). -/
def execHoldoffWrite (n : TriggerNo) (d : Halfword) (s : State) : Host.Outcome State Fault Refusal :=
  answer (State.writeHoldoff n d) s

/-- The owner's event of SNAPSHOT (R118): detail is the present mask, aux the number of axes present. -/
def State.takeSnapshot (s : State) : State :=
  (s.offer .engine { cause := .snapshot, stamp := s.now, gang := some s.gang }).complete .ok
    (s.gang.mask.setWidth 16) (half s.gang.present.length)

/-- SNAPSHOT (R118). -/
def execSnapshot (u : UnitNo) (s : State) : Host.Outcome State Fault Refusal :=
  answer (State.carryOut .snapshot u State.takeSnapshot) s

end Sys2Proof.Machine
end

