-- ==== Sys2Proof/Machine/Ticks.lean ====
section
/-! DEFINITION. The ticks of CLKIN. A tick is counted by every counter derived from CLKIN (R2, R91, R108, R112, R127, R154),
and it is taken by the timebase as an event of its own (R121). An event that falls together with the tick, a sample point or
the expiry of a timer, stands on either side of the timebase's event. -/
namespace Sys2Proof.Machine

/-! ## The counters derived from CLKIN -/

/-- A timer of interval units, in ticks (R91, R112). -/
def tickTimer : Option Nat → Option Nat
  | none => none
  | some k => some (k - 1)

/-- A divider reaches a sample point at every `interval`th tick from its restart (R2). -/
def Divider.tick (interval : Nat) (d : Divider) : Divider :=
  if interval ≤ d.count + 1 then { count := 0, due := true } else { count := d.count + 1, due := false }

/-- A running age timer adds 1 at the end of each age unit and stops at 65535 (R154). -/
def AgeTimer.tick (a : AgeTimer) : AgeTimer :=
  if Config.ticksPerAge ≤ a.ticks + 1 then { count := satInc a.count, ticks := 0 } else { a with ticks := a.ticks + 1 }

def Axis.tick (x : Axis) : Axis := { x with divider := x.divider.tick x.config.sampleClock.interval }

def Line.tick (l : Line) : Line := { l with widthTimer := tickTimer l.widthTimer, gapTimer := tickTimer l.gapTimer }

def Trigger.tick (t : Trigger) : Trigger :=
  { t with divider := t.divider.tick t.sampleClock.interval, timer := tickTimer t.timer }

/-- Every counter derived from CLKIN counts a tick. SYNC has a sample point at every tick (R127). -/
def State.count (s : State) : State :=
  { s with counted := true
           axes := eachUnit Axis.tick s.axes
           lines := eachUnit Line.tick s.lines
           triggers := eachUnit Trigger.tick s.triggers
           timebase := { s.timebase with sampleDue := true }
           journal := { s.journal with age := s.journal.age.map AgeTimer.tick } }

/-! ## The events of the tick counted last -/

/-- An event whose condition holds is taken. -/
def State.when (ready : State → Bool) (event : State → State) (s : State) : State := if ready s then event s else s

/-- The events of the sample points taken that no command has taken yet are taken (R1, R77, R108, R127). DESIGN CHOICE: in
the order axes, triggers, SYNC. R117 and R121 allow every order, and a queue that names the events has them in its own.
Safe [3]. -/
def State.takeSampled (s : State) : State :=
  let axes := ([0, 1, 2, 3] : List AxisNo).foldl (fun t n => (t.takeEvaluation { axis := n }).takeZChange { axis := n }) s
  (([0, 1, 2, 3] : List TriggerNo).foldl (fun t n => t.takeLevelChange n) axes).takeSyncChange

/-- The timers that have counted their full length, and that no command has seen expire, expire (R91, R112), and the age
timer that has reached the hold time sets the age latch (R155). DESIGN CHOICE: in the order triggers, lines, journal. The
units are independent, and a queue that names the events has them in its own order. Safe [2]. -/
def State.takeExpiries (s : State) : State :=
  let triggers := ([0, 1, 2, 3] : List TriggerNo).foldl (fun t n => t.when (State.holdoffOver n) (State.expireHoldoff n)) s
  let lines := ([0, 1, 2, 3, 4, 5, 6, 7] : List LineNo).foldl
    (fun t l => (t.when (State.widthOver l) (State.expireWidth l)).when (State.gapOver l) (State.expireGap l)) triggers
  lines.when State.aged State.setAgeLatch

/-- The counters have counted the coming tick: every event of the tick before it is over by then [2] [3]. DESIGN CHOICE: what
no command has taken is taken in the order sample points, expiries, so that a request that a leftover fire or trigger edge
sends to a line comes before a leftover expiry of the line. R104 allows either order, and a queue that names the events has
them in its own. Safe [2]. -/
def State.countTick (s : State) : State := if s.counted then s else s.takeSampled.takeExpiries.count

/-- An event that falls together with a tick is taken before or after it (R121): after the timebase has taken the tick, or
before it, when the counters have counted the tick and the timebase has not taken it. Where its condition holds on neither
side, nothing happens [14]. -/
def State.atTick (ready : State → Bool) (event : State → State) (s : State) : State :=
  if ready s then event s
  else if ready s.countTick then event s.countTick
  else s

/-- FILTER_SAMPLE_POINT (R1) [3]. -/
def execFilterSamplePoint (f : FilterInput) (s : State) : Host.Outcome State Fault Refusal :=
  answer (State.atTick (State.sampleDue f) (State.takeSample f)) s

/-- WIDTH_EXPIRY (R97): the width timer has counted its full length (R91) [2]. -/
def execWidthExpiry (l : LineNo) (s : State) : Host.Outcome State Fault Refusal :=
  answer (State.atTick (State.widthOver l) (State.expireWidth l)) s

/-- GAP_EXPIRY (R97): the gap timer has counted its full length (R91) [2]. -/
def execGapExpiry (l : LineNo) (s : State) : Host.Outcome State Fault Refusal :=
  answer (State.atTick (State.gapOver l) (State.expireGap l)) s

/-- HOLDOFF_EXPIRY (R112): the holdoff timer has counted its length [2]. -/
def execHoldoffExpiry (n : TriggerNo) (s : State) : Host.Outcome State Fault Refusal :=
  answer (State.atTick (State.holdoffOver n) (State.expireHoldoff n)) s

/-- AGE_LATCH_SET (R155): the running count has reached the hold time [16]. -/
def execAgeLatchSet (s : State) : Host.Outcome State Fault Refusal := answer (State.atTick State.aged State.setAgeLatch) s

/-! ## The tick of the timebase -/

/-- A moment of the journal ends (R137). -/
def Journal.endMoment (j : Journal) : Journal := { j with moment := { start := j.arbiter, events := [] } }

/-- The timebase takes a tick: the time moves, and an advance is handed to the schedules (R121). -/
def State.advance (s : State) : State :=
  { s with counted := false
           timebase := s.timebase.tick
           journal := s.journal.endMoment
           schedules := if s.timebase.advance = 0 then s.schedules else (s.takeUpAll).schedules }

/-- A tick (R121): the counters have counted it, what was taken before it is over, and the timebase takes it. DESIGN CHOICE:
of a tick that the counters have counted before, the events of sample points that no command has taken are taken before the
timebase takes it, and the expiries after it. Safe [2] [3]. -/
def State.tick (s : State) : State := s.countTick.takeSampled.advance

/-- TIMEBASE_TICK (R121): a tick, adjusted when the trim interval says so [2]. -/
def execTimebaseTick (s : State) : Host.Outcome State Fault Refusal := answer State.tick s

/-- TRIM_ADJUSTED_TICK (R122): the tick that brings the interval count to N [2]. -/
def execTrimAdjustedTick (s : State) : Host.Outcome State Fault Refusal :=
  answer (fun s => if s.timebase.adjusts then s.tick else s) s

end Sys2Proof.Machine
end

