-- ==== Sys2Proof/Machine/HostBus.lean ====
section
/-! DEFINITION. The register window (11): its locations, what each presents on a read, the read side-effects, and what a host
write to each does; and the rows that are accesses to the interrupt unit, the coherent reads and REGISTER_WRITE. -/
namespace Sys2Proof.Machine

/-! ## Locations -/

/-- The locations of 11 section 11.5. -/
inductive Location where
  | id | flags | enable | pool | cmd | cmdStatus | cmdDetail | cmdAux
  | arg (k : Fin 4)
  | stageSel
  | staged (k : Fin 10)
  | axisStaging (k : Fin 8)
  | axisWindow (n : AxisNo) (k : Fin 8)
  | lineConfig (l : LineNo)
  | lineWidth (l : LineNo)
  | collisions (l : LineNo)
  | triggerConfig (n : TriggerNo)
  | holdoff (n : TriggerNo)
  | time (k : Fin 3)
  | syncConfig | trimMode
  | interval (high : Bool)
  | adds | skips
  | jctrl | jstate | jcfg | jhold | overwriteCount | pendingLoss | viewPointer | viewData
  deriving DecidableEq, Repr

/-- The locations of the journal, 0x70 to 0x77. -/
def journalLocation (k : Fin 8) : Location :=
  match k with
  | 0 => .jctrl | 1 => .jstate | 2 => .jcfg | 3 => .jhold | 4 => .overwriteCount | 5 => .pendingLoss
  | 6 => .viewPointer | 7 => .viewData

/-- The locations 0x00 to 0x07. -/
def frontLocation (k : Fin 8) : Location :=
  match k with
  | 0 => .id | 1 => .flags | 2 => .enable | 3 => .pool | 4 => .cmd | 5 => .cmdStatus | 6 => .cmdDetail | 7 => .cmdAux

/-- The location at an address (11 section 11.5); 0x17, 0x69 to 0x6F and 0x78 to 0x7F carry none (R185). -/
def locationAt (a : Address) : Option Location :=
  let x := a.toNat
  if x < 0x08 then some (frontLocation (Fin.ofNat 8 x))
  else if x < 0x0C then some (.arg (Fin.ofNat 4 (x - 0x08)))
  else if x = 0x0C then some .stageSel
  else if x < 0x17 then some (.staged (Fin.ofNat 10 (x - 0x0D)))
  else if x = 0x17 then none
  else if x < 0x20 then some (.axisStaging (Fin.ofNat 8 (x - 0x18)))
  else if x < 0x40 then some (.axisWindow (Fin.ofNat 4 ((x - 0x20) / 8)) (Fin.ofNat 8 ((x - 0x20) % 8)))
  else if x < 0x50 then
    some (if x % 2 = 0 then .lineConfig (Fin.ofNat 8 ((x - 0x40) / 2)) else .lineWidth (Fin.ofNat 8 ((x - 0x40) / 2)))
  else if x < 0x58 then some (.collisions (Fin.ofNat 8 (x - 0x50)))
  else if x < 0x60 then
    some (if x % 2 = 0 then .triggerConfig (Fin.ofNat 4 ((x - 0x58) / 2)) else .holdoff (Fin.ofNat 4 ((x - 0x58) / 2)))
  else if x < 0x63 then some (.time (Fin.ofNat 3 (x - 0x60)))
  else if x = 0x63 then some .syncConfig
  else if x = 0x64 then some .trimMode
  else if x = 0x65 then some (.interval false)
  else if x = 0x66 then some (.interval true)
  else if x = 0x67 then some .adds
  else if x = 0x68 then some .skips
  else if x < 0x70 then none
  else if x < 0x78 then some (journalLocation (Fin.ofNat 8 (x - 0x70)))
  else none

/-! ## What a read returns -/

/-- CMD_STATUS (11 section 11.6.1). -/
def Engine.statusWord (e : Engine) : Halfword := place e.result.code 0 ||| placeBit (e.phase ≠ .idle) 8

/-- The state word of an axis window (R192). -/
def State.stateWord (n : AxisNo) (s : State) : Halfword :=
  let x := s.axis n
  let c := s.schedule n
  place x.state.code 0 ||| place x.homing.code 2 ||| place c.state.code 4 ||| place c.runMode.code 6 |||
  place x.direction.code 7

/-- The schedule length with the head slot, 255 when there is no head (R74, R192). -/
def Schedule.lengthWord (c : Schedule) : Halfword :=
  place (BitVec.ofNat 8 c.list.length) 8 ||| place (BitVec.ofNat 8 ((c.list.head?.map Fin.val).getD 255)) 0

/-- The remaining count of the head, 0 when there is no head (R74). -/
def State.headRemaining (n : AxisNo) (s : State) : Halfword :=
  ((s.schedule n).list.head?.map (fun k => (s.entry k).remaining)).getD 0

/-- What the offset `k` of an axis window presents (11 section 11.6.4). -/
def State.axisWindow (n : AxisNo) (k : Fin 8) (s : State) : Halfword :=
  match k with
  | 0 => halfOf (s.axis n).position 0
  | 1 => halfOf s.bus.positionShadows[n].position 1
  | 2 => s.bus.positionShadows[n].revolution
  | 3 => s.stateWord n
  | 4 => (s.schedule n).lengthWord
  | 5 => s.headRemaining n
  | 6 => (s.axis n).errorTotal
  | 7 => place (s.axis n).errorSince 0

/-- JSTATE (R159). -/
def Journal.stateWord (j : Journal) : Halfword :=
  place (BitVec.ofNat 7 j.ring.length) 0 ||| place j.reader.code 7 ||| place j.lastAccess.code 8 ||| place j.mode.code 12

/-- What a location presents on a read (11 sections 11.5 and 11.6). -/
def Window.present (l : Location) (s : State) : Halfword :=
  match l with
  | .id => Config.identity
  | .flags => s.flagsWord.setWidth 16
  | .enable => s.interrupts.enables.setWidth 16
  | .pool => half s.pool.free.length
  | .cmd => place s.engine.opcode 0 ||| place s.engine.unit 8
  | .cmdStatus => s.engine.statusWord
  | .cmdDetail => s.engine.detail
  | .cmdAux => s.engine.aux
  | .arg k => s.engine.args[k]
  | .stageSel => half s.engine.stageSel.val
  | .staged k => s.engine.selected.read k
  | .axisStaging k => s.engine.axisStaging.read k
  | .axisWindow n k => s.axisWindow n k
  | .lineConfig l => (s.line l).configWord
  | .lineWidth l => (s.line l).width
  | .collisions l => (s.line l).collisions
  | .triggerConfig n => (s.trigger n).configWord
  | .holdoff n => (s.trigger n).holdoff
  | .time k => if k = 0 then halfOf s.now 0 else halfOf s.bus.timeShadow k.val
  | .syncConfig => s.timebase.syncWord
  | .trimMode => place s.timebase.trimMode.code 0
  | .interval high => halfOf s.timebase.stagedInterval (if high then 1 else 0)
  | .adds => s.timebase.adds
  | .skips => s.timebase.skips
  | .jctrl => 0
  | .jstate => s.journal.stateWord
  | .jcfg => place s.journal.threshold 0 ||| place s.journal.mode.code 8
  | .jhold => s.journal.holdTime
  | .overwriteCount => s.journal.overwrites
  | .pendingLoss => s.journal.pendingLoss
  | .viewPointer => half s.journal.viewPointer ||| place (BitVec.ofNat 6 s.journal.view.length) 8
  | .viewData => s.journal.viewData

/-! ## Reads with a side effect -/

/-- A read of position low captures the position and the revolution count into the axis's shadow (R186). -/
def State.readPosition (n : AxisNo) (s : State) : State :=
  let x := s.axis n
  (s.setBus { s.bus with
    positionShadows := s.bus.positionShadows.set n { position := x.position, revolution := x.revolution } }).drive
    (halfOf x.position 0)

/-- POSITION_LOW_READ (R186). -/
def execPositionLowRead (n : AxisNo) (s : State) : Host.Outcome State Fault Refusal := answer (State.readPosition n) s

/-- A read of the lowest time location captures the time into the timebase shadow (R187). -/
def State.readTime (s : State) : State := (s.setBus { s.bus with timeShadow := s.now }).drive (halfOf s.now 0)

/-- TIME_LOW_READ (R187). -/
def execTimeLowRead (s : State) : Host.Outcome State Fault Refusal := answer State.readTime s

/-- A host read access to a location (R183, R189): the value it presents is driven on D, and the side effect acts. -/
def Window.read (l : Location) (s : State) : State :=
  match l with
  | .axisWindow n 0 => s.readPosition n
  | .time 0 => s.readTime
  | .collisions l => s.readCollisions l
  | .adds => s.readAdds
  | .skips => s.readSkips
  | .overwriteCount => s.readOverwrites
  | .viewData => s.readView
  | l => s.drive (Window.present l s)

/-- A host read access to an address; an address without a location returns 0 (R185). -/
def Window.readAt (a : Address) (s : State) : State :=
  match locationAt a with
  | none => s.drive 0
  | some l => Window.read l s

/-! ## Writes -/

/-- FLAGS_WRITE (R176). -/
def execFlagsWrite (d : Halfword) (s : State) : Host.Outcome State Fault Refusal :=
  answer (fun s => s.setInterrupts (s.interrupts.clear d)) s

/-- ENABLE_WRITE (R178). -/
def execEnableWrite (d : Halfword) (s : State) : Host.Outcome State Fault Refusal :=
  answer (fun s => s.setInterrupts (s.interrupts.writeEnables d)) s

/-- A host write access to a location: it acts as its owning rule gives, and a location that is read only or has a read side
effect ignores it (R185, R189). -/
def Window.write (l : Location) (d : Halfword) (s : State) : State :=
  match l with
  | .flags => s.setInterrupts (s.interrupts.clear d)
  | .enable => s.setInterrupts (s.interrupts.writeEnables d)
  | .cmd => s.commandWrite d
  | .arg k => s.writeArg k d
  | .stageSel => s.writeStageSel d
  | .staged k => s.writeStaged k d
  | .axisStaging k => s.writeAxisStaging k d
  | .lineConfig l => s.writeLineConfig l d
  | .lineWidth l => s.writeLineWidth l d
  | .triggerConfig n => s.writeTriggerConfig n d
  | .holdoff n => s.writeHoldoff n d
  | .syncConfig => s.writeSyncConfig d
  | .trimMode => s.writeTrimMode d
  | .interval high => s.writeInterval high d
  | .jctrl => s.writeControl d
  | .jcfg => s.writeJournalConfig d
  | .jhold => s.writeHoldTime d
  | .viewPointer => s.writeViewPointer d
  | .id | .pool | .cmdStatus | .cmdDetail | .cmdAux | .axisWindow _ _ | .collisions _ | .time _ | .adds | .skips
  | .jstate | .overwriteCount | .pendingLoss | .viewData => s

/-- A host write access to an address; an address without a location ignores it (R185). -/
def Window.writeAt (a : Address) (d : Halfword) (s : State) : State :=
  match locationAt a with
  | none => s
  | some l => Window.write l d s

/-- REGISTER_WRITE (R185): a host write access, ARG0 to ARG3 (R162) and the trim interval halves (R123) among them [17]. -/
def execRegisterWrite (a : Address) (d : Halfword) (s : State) : Host.Outcome State Fault Refusal :=
  answer (Window.writeAt a d) s

end Sys2Proof.Machine
end

