-- ==== Sys2Proof/Machine/Dispatch.lean ====
section
/-! DEFINITION. One arm for each command: the one direct call of its meaning. -/
namespace Sys2Proof.Machine

/-- The effect of a command on everything but the queue. -/
def exec (i : Instr) (s : State) : Host.Outcome State Fault Refusal :=
  match i with
  | .pinReset => Sys2Proof.Machine.execPinReset s
  | .resetnRelease => Sys2Proof.Machine.execResetnRelease s
  | .decoderEvaluation e => Sys2Proof.Machine.execDecoderEvaluation e s
  | .indexEdge e => Sys2Proof.Machine.execIndexEdge e s
  | .triggerLevelChange n => Sys2Proof.Machine.execTriggerLevelChange n s
  | .holdoffExpiry n => Sys2Proof.Machine.execHoldoffExpiry n s
  | .syncEdge => Sys2Proof.Machine.execSyncEdge s
  | .timebaseTick => Sys2Proof.Machine.execTimebaseTick s
  | .trimAdjustedTick => Sys2Proof.Machine.execTrimAdjustedTick s
  | .deadlineComparison n => Sys2Proof.Machine.execDeadlineComparison n s
  | .widthExpiry l => Sys2Proof.Machine.execWidthExpiry l s
  | .gapExpiry l => Sys2Proof.Machine.execGapExpiry l s
  | .ageLatchSet => Sys2Proof.Machine.execAgeLatchSet s
  | .schedAppend u => Sys2Proof.Machine.execSchedAppend u s
  | .appendStep => Sys2Proof.Machine.execAppendStep s
  | .appendCompletion => Sys2Proof.Machine.execAppendCompletion s
  | .schedSkip u => Sys2Proof.Machine.execSchedSkip u s
  | .schedFlush u => Sys2Proof.Machine.execSchedFlush u s
  | .flushStep => Sys2Proof.Machine.execFlushStep s
  | .flushCompletion => Sys2Proof.Machine.execFlushCompletion s
  | .schedHold u => Sys2Proof.Machine.execSchedHold u s
  | .schedRun u => Sys2Proof.Machine.execSchedRun u s
  | .axisConfig u => Sys2Proof.Machine.execAxisConfig u s
  | .axisStart u => Sys2Proof.Machine.execAxisStart u s
  | .axisStop u => Sys2Proof.Machine.execAxisStop u s
  | .axisResume u => Sys2Proof.Machine.execAxisResume u s
  | .axisSetpos u => Sys2Proof.Machine.execAxisSetpos u s
  | .axisClrerr u => Sys2Proof.Machine.execAxisClrerr u s
  | .axisReset u => Sys2Proof.Machine.execAxisReset u s
  | .homeArm u => Sys2Proof.Machine.execHomeArm u s
  | .homeCancel u => Sys2Proof.Machine.execHomeCancel u s
  | .outSet u => Sys2Proof.Machine.execOutSet u s
  | .outClear u => Sys2Proof.Machine.execOutClear u s
  | .outToggle u => Sys2Proof.Machine.execOutToggle u s
  | .outPulse u => Sys2Proof.Machine.execOutPulse u s
  | .timeSet u => Sys2Proof.Machine.execTimeSet u s
  | .syncArm u => Sys2Proof.Machine.execSyncArm u s
  | .syncDisarm u => Sys2Proof.Machine.execSyncDisarm u s
  | .snapshot u => Sys2Proof.Machine.execSnapshot u s
  | .chipReset u => Sys2Proof.Machine.execChipReset u s
  | .readerOpen => Sys2Proof.Machine.execReaderOpen s
  | .readerRelease => Sys2Proof.Machine.execReaderRelease s
  | .readerDiscard => Sys2Proof.Machine.execReaderDiscard s
  | .jcfgWrite d => Sys2Proof.Machine.execJcfgWrite d s
  | .jholdWrite d => Sys2Proof.Machine.execJholdWrite d s
  | .viewDataRead => Sys2Proof.Machine.execViewDataRead s
  | .viewPointerWrite d => Sys2Proof.Machine.execViewPointerWrite d s
  | .overwriteCountRead => Sys2Proof.Machine.execOverwriteCountRead s
  | .flagsWrite d => Sys2Proof.Machine.execFlagsWrite d s
  | .enableWrite d => Sys2Proof.Machine.execEnableWrite d s
  | .stageSelWrite d => Sys2Proof.Machine.execStageSelWrite d s
  | .stagedEntryWrite k d => Sys2Proof.Machine.execStagedEntryWrite k d s
  | .axisStagingWrite k d => Sys2Proof.Machine.execAxisStagingWrite k d s
  | .lineConfigWrite l d => Sys2Proof.Machine.execLineConfigWrite l d s
  | .widthWrite l d => Sys2Proof.Machine.execWidthWrite l d s
  | .collisionCounterRead l => Sys2Proof.Machine.execCollisionCounterRead l s
  | .triggerConfigWrite n d => Sys2Proof.Machine.execTriggerConfigWrite n d s
  | .holdoffWrite n d => Sys2Proof.Machine.execHoldoffWrite n d s
  | .syncConfigWrite d => Sys2Proof.Machine.execSyncConfigWrite d s
  | .trimModeWrite d => Sys2Proof.Machine.execTrimModeWrite d s
  | .addsCounterRead => Sys2Proof.Machine.execAddsCounterRead s
  | .skipsCounterRead => Sys2Proof.Machine.execSkipsCounterRead s
  | .positionLowRead n => Sys2Proof.Machine.execPositionLowRead n s
  | .timeLowRead => Sys2Proof.Machine.execTimeLowRead s
  | .registerWrite a d => Sys2Proof.Machine.execRegisterWrite a d s
  | .filterSamplePoint f => Sys2Proof.Machine.execFilterSamplePoint f s
  | .commandWrite d => Sys2Proof.Machine.execCommandWrite d s

end Sys2Proof.Machine
end

