-- ==== Sys2Proof/Machine/Bus.lean ====
section
/-! DEFINITION. The strobe protocol of the host bus (R183, R185): which levels of CSn, RDn, WRn and RESETn make which
accesses, and which command of the table each access is. The rows of the table are whole accesses, so this protocol has a
state of its own beside `State` [20]. -/
namespace Sys2Proof.Machine

/-- The levels of the bus pins at one moment; true is HIGH. -/
structure BusPins where
  csn : Bool
  rdn : Bool
  wrn : Bool
  resetn : Bool
  address : Address
  data : Halfword
  deriving DecidableEq, Repr

/-- Where the bus interface stands between two moments. -/
inductive BusPhase where
  /-- No access in progress. -/
  | idle
  /-- A read access in progress: its value is driven on D. -/
  | reading
  /-- A write access in progress. -/
  | writing
  /-- Both strobes were low together: it waits until both are high again. -/
  | blocked
  /-- RESETn is low, or has risen and no strobe has gone low since; the last levels of RDn and WRn. -/
  | afterReset (rdn wrn : Bool)
  deriving DecidableEq, Repr

/-- A host access that has been taken. -/
inductive Access where
  | read (a : Address)
  | write (a : Address) (d : Halfword)
  deriving DecidableEq, Repr

/-- The beginning of an access (R183): a read takes A at once. DEDUCED: a strobe that went low during an access of the other
kind counts from the end of that access, since it is disregarded until then [20]. -/
def BusPhase.begin (rdn wrn : Bool) (p : BusPins) : BusPhase × List Access :=
  if p.csn then (.idle, [])
  else match rdn, wrn with
    | true, true => (.idle, [])
    | false, true => (.reading, [.read p.address])
    | true, false => (.writing, [])
    | false, false => (.blocked, [])

/-- The bus interface at one moment (R183, R185): the phase after it, and the accesses taken in it, a read at its beginning
and a write at its end. DESIGN CHOICE, unsafe: R185 names the first access after RESETn has risen and says nothing of a
strobe that has been low since before; when that first access, of the other strobe, ends, such a strobe begins an access as
one that went low during the access would (R183) [20]. DESIGN CHOICE, unsafe: the wait until both strobes are high again
(R183) outlasts a CSn that goes high, and strobe levels at which CSn is high end it too; R183 also says that RDn and WRn are
ignored while CSn is high, and does not say which of the two holds for the wait [20]. DESIGN CHOICE, unsafe: before the first
access after a reset, a strobe falls from the level it had at the moment before, whatever CSn was then, so that a strobe and
CSn that go low at one moment begin the access; and two strobes that go low together there end R185's wait for the first
strobe, though no access is taken [20]. -/
def BusPhase.next (b : BusPhase) (p : BusPins) : BusPhase × List Access :=
  let fresh := BusPhase.begin p.rdn p.wrn p
  if !p.resetn then (.afterReset p.rdn p.wrn, [])
  else match b with
    | .idle => fresh
    | .reading => if p.csn || p.rdn then fresh else (.reading, [])
    | .writing => if p.csn || p.wrn then (fresh.1, .write p.address p.data :: fresh.2) else (.writing, [])
    | .blocked => if p.rdn && p.wrn then (.idle, []) else (.blocked, [])
    | .afterReset r w =>
      let readFalls := r && !p.rdn
      let writeFalls := w && !p.wrn
      if !p.csn && (readFalls || writeFalls) then BusPhase.begin (!readFalls) (!writeFalls) p
      else (.afterReset p.rdn p.wrn, [])

/-- The bus interface drives D (R183). -/
def BusPhase.drives (b : BusPhase) : Bool := b = .reading

/-- The row of the table that a write access to a location is. -/
def Location.writeCommand (a : Address) (l : Location) (d : Halfword) : Instr :=
  match l with
  | .flags => .flagsWrite d
  | .enable => .enableWrite d
  | .cmd => .commandWrite d
  | .stageSel => .stageSelWrite d
  | .staged k => .stagedEntryWrite k d
  | .axisStaging k => .axisStagingWrite k d
  | .lineConfig l => .lineConfigWrite l d
  | .lineWidth l => .widthWrite l d
  | .triggerConfig n => .triggerConfigWrite n d
  | .holdoff n => .holdoffWrite n d
  | .syncConfig => .syncConfigWrite d
  | .trimMode => .trimModeWrite d
  | .jctrl => if d = 1 then .readerOpen else if d = 2 then .readerRelease else if d = 3 then .readerDiscard
              else .registerWrite a d
  | .jcfg => .jcfgWrite d
  | .jhold => .jholdWrite d
  | .viewPointer => .viewPointerWrite d
  | _ => .registerWrite a d

/-- The row of the table that a read access to a location is; a read without a side effect has none. -/
def Location.readCommand (l : Location) : Option Instr :=
  match l with
  | .axisWindow n 0 => some (.positionLowRead n)
  | .time 0 => some .timeLowRead
  | .collisions l => some (.collisionCounterRead l)
  | .adds => some .addsCounterRead
  | .skips => some .skipsCounterRead
  | .overwriteCount => some .overwriteCountRead
  | .viewData => some .viewDataRead
  | _ => none

/-- The command of the table that a host access is, where it has a row. -/
def Access.command : Access → Option Instr
  | .read a => (locationAt a).bind Location.readCommand
  | .write a d => some (match locationAt a with
    | none => .registerWrite a d
    | some l => l.writeCommand a d)

end Sys2Proof.Machine
end

