-- ==== Sys2Proof/Safety.lean ====
section
/-! DEFINITION. What counts as a sound state: the conditions that the rules state of every moment, block by block, as
predicates that every step keeps. -/
namespace Sys2Proof.Machine

/-! ## The entry pool and the schedules -/

/-- The slots in the free list and in the four schedules (R35). -/
def State.allSlots (s : State) : List Slot := s.pool.free ++ s.schedules.toList.flatMap Schedule.list

/-- What an accepted append may still count on (R40): slots, room within the quota, and staging slots. -/
def State.AppendBacked (s : State) : Prop :=
  ∀ p, s.engine.phase = .appending p →
    p.left ≤ s.pool.free.length ∧
    (s.schedule (axisOf s.engine.unit)).list.length + p.left ≤ (s.axis (axisOf s.engine.unit)).config.quota.toNat ∧
    p.next + p.left ≤ 8

/-- R35: every slot is in exactly one place, and an append in progress finds the slots it needs (R40). -/
def State.PoolSound (s : State) : Prop := s.allSlots.Nodup ∧ s.allSlots.length = 128 ∧ s.AppendBacked

/-- R39: no schedule's length exceeds its quota, and a quota is 1 to 128. -/
def State.QuotasKept (s : State) : Prop :=
  s.AppendBacked ∧
  ∀ n, (s.schedule n).list.length ≤ (s.axis n).config.quota.toNat ∧ 1 ≤ (s.axis n).config.quota.toNat ∧
    (s.axis n).config.quota.toNat ≤ 128

/-- The checks of R31 that a scheduled entry keeps while it stays (R29, R57). -/
def Entry.ValidFor (c : AxisConfig) (e : Entry) : Prop :=
  1 ≤ e.remaining.toNat ∧ e.remaining.toNat ≤ e.count.toNat ∧ (e.op ≠ .none → e.line.toNat < 8) ∧
  (c.range = .rotary → inRevolution e.target c.modulus) ∧
  (1 < e.count.toNat → e.stride ≠ 0 ∧ (c.range = .rotary → e.stride.toInt.natAbs + 1 ≤ c.modulus.toNat))

/-- The staged entries that an append in progress will still copy pass R31 (R33, R40). -/
def State.BatchValid (s : State) : Prop :=
  ∀ p, s.engine.phase = .appending p → ∀ i : Fin 8, p.next ≤ i.val → i.val < p.next + p.left →
    (s.engine.staged[i]).firstBad (s.axis (axisOf s.engine.unit)).config = none

/-- A ROTARY configuration has a modulus of 2 to 16,777,216 and a reference within it (R20). -/
def AxisConfig.Sound (c : AxisConfig) : Prop :=
  c.range = .rotary →
    Config.minModulus ≤ c.modulus.toNat ∧ c.modulus.toNat ≤ Config.maxModulus ∧ inRevolution c.reference c.modulus

/-- Every entry in a schedule is valid for its axis, and the configurations are sound (R31, R40). -/
def State.EntriesValid (s : State) : Prop :=
  s.PoolSound ∧ s.BatchValid ∧ (∀ n, (s.axis n).config.Sound) ∧
  ∀ n, ∀ k ∈ (s.schedule n).list, (s.entry k).ValidFor (s.axis n).config

/-! ## Axes -/

/-- R9, R18, R82: a ROTARY position lies in 0 to M-1; R8: a LINEAR axis keeps its revolution count at 0. -/
def Axis.PositionSound (x : Axis) : Prop :=
  x.config.Sound ∧ (x.config.range = .rotary → inRevolution x.position x.config.modulus) ∧
  (x.config.range = .linear → x.revolution = 0)

/-- R12, R15: a STOPPED axis has a count since resume of 0, and a COUNTING axis has not reached its threshold. -/
def Axis.ErrorsSound (x : Axis) : Prop :=
  (x.state = .stopped → x.errorSince = 0) ∧
  (x.state = .counting → x.config.faultThreshold ≠ 0 → x.errorSince < x.config.faultThreshold)

/-! ## Lines, triggers, timebase -/

/-- R90: which timer runs in which line state; R101, R102: width and gap are never 0. -/
def Line.Sound (l : Line) : Prop :=
  l.width ≠ 0 ∧ l.gap ≠ 0 ∧
  match l.state with
  | .static => l.widthTimer = none ∧ l.gapTimer = none
  | .pulsing => l.widthTimer.isSome ∧ l.gapTimer = none
  | .deferred => l.widthTimer.isSome ∧ l.gapTimer = none
  | .gap => l.widthTimer = none ∧ l.gapTimer.isSome

/-- The holdoff timer runs in HOLDOFF and in no other state (R110, R112). -/
def Trigger.Sound (t : Trigger) : Prop := t.state = .holdoff ↔ t.timer.isSome

/-- R122, R123: the interval in force is 16 to 16,777,216; the interval count is below it, and 0 while the trim is OFF. -/
def Timebase.TrimSound (t : Timebase) : Prop :=
  Config.minTrimInterval ≤ t.interval.toNat ∧ t.interval.toNat ≤ Config.maxTrimInterval ∧
  t.intervalCount < t.interval.toNat ∧ (t.trimMode = .off → t.intervalCount = 0)

/-! ## The journal -/

/-- R138: the sequence numbers, oldest to newest, are consecutive modulo 65536 and end just below the next number. -/
def Numbered (ring : List Record) (next : BitVec 16) : Prop :=
  ∀ i (h : i < ring.length), (ring[i]).seq + BitVec.ofNat 16 (ring.length - i) = next

/-- R135, R138, R139: at most 64 records, consecutively numbered; losses are pending only in a full STOP-mode journal; and
the journal is what the events of the moment make of the journal at its start (R137, R149). -/
def Journal.RingSound (j : Journal) : Prop :=
  j.ring.length ≤ Config.ringCapacity ∧ Numbered j.ring j.nextSeq ∧
  (j.pendingLoss ≠ 0 → j.ring.length = Config.ringCapacity ∧ j.mode = .stop) ∧
  j.moment.start.ring.length ≤ Config.ringCapacity ∧ Numbered j.moment.start.ring j.moment.start.nextSeq ∧
  j.moment.start.replay j.moment.events = j.arbiter

/-- R144, R152: while the opened mark is set the reader is OPEN, and the oldest record of the ring is the opened one, whose
encoding the view holds, whichever offers of the moment stand in the places of its admissions; in STOP mode an OPEN reader
has the mark set (R146); the view and its pointer stay within 32. -/
def Journal.ReaderSound (j : Journal) : Prop :=
  (j.openedMark = true → j.reader = .opened ∧
    ∀ os : List Offer, os.length = (offersOf j.moment.events).length →
      ∃ r, (j.moment.start.replay (refill j.moment.events os)).ring.head? = some r ∧
        (j.moment.start.replay (refill j.moment.events os)).view = r.encode) ∧
  (j.reader = .opened → j.ring ≠ [] ∧ (j.mode = .stop → j.openedMark = true)) ∧
  j.view.length ≤ Config.viewCapacity ∧ j.moment.start.view.length ≤ Config.viewCapacity ∧
  j.viewPointer ≤ Config.viewCapacity

/-- R153, R154: the age timer runs while the ring is not empty, the latch is set only while it runs, and the threshold is 1
to 64. -/
def Journal.AgeSound (j : Journal) : Prop :=
  (j.age.isSome ↔ j.ring ≠ []) ∧ (j.ageLatch = true → j.age.isSome) ∧
  1 ≤ j.threshold.toNat ∧ j.threshold.toNat ≤ Config.ringCapacity

/-- Which of axis number, position, gang, entry, aux, value32 and value48 a record carries. -/
def Content.groups (c : Content) : List Bool :=
  [c.axis.isSome, c.position.isSome, c.gang.isSome, c.entry.isSome, c.aux.isSome, c.value32.isSome, c.value48.isSome]

/-- The causes whose records carry the revolution group on a ROTARY axis (08 section 8.1.1). -/
def Cause.hasRevolution : Cause → Bool
  | .index | .homed | .compare | .expired | .phaseErr | .fault => true
  | .flushed | .wrap | .trigger | .snapshot | .sync | .timeset | .loss => false

/-- Each cause carries a fixed selection of groups (R134 and the table of 08 section 8.1.1). -/
def Content.Shaped (c : Content) : Prop :=
  (c.revolution.isSome → c.cause.hasRevolution) ∧
  match c.cause with
  | .index => c.groups = [true, true, false, false, true, false, false]
  | .homed => c.groups = [true, true, false, false, false, true, false]
  | .compare => c.groups = [true, true, c.gang.isSome, true, false, false, false]
  | .expired => c.groups = [true, true, false, true, false, false, false]
  | .flushed => c.groups = [true, false, false, false, false, true, false]
  | .phaseErr => c.groups = [true, true, false, false, false, true, false]
  | .fault => c.groups = [true, true, false, false, false, true, false]
  | .wrap => c.groups = [true, true, false, false, true, false, false]
  | .trigger => c.groups = [false, false, true, false, true, false, false]
  | .snapshot => c.groups = [false, false, true, false, false, false, false]
  | .sync => c.groups = [false, false, false, false, false, false, c.value48.isSome]
  | .timeset => c.groups = [false, false, false, false, false, false, true]
  | .loss => c.groups = [false, false, false, false, false, true, false]

/-- What an event of a moment may put into the ring. -/
def JournalEvent.content : JournalEvent → Option Content
  | .admission o => some o.content
  | .openOldest => none
  | .release loss => loss
  | .discard loss => loss
  | .setMode _ => none

/-- Every record of the ring and of the present moment carries the groups of its cause. -/
def Journal.RecordsShaped (j : Journal) : Prop :=
  (∀ r ∈ j.ring, r.content.Shaped) ∧ (∀ r ∈ j.moment.start.ring, r.content.Shaped) ∧
  ∀ e ∈ j.moment.events, ∀ c, e.content = some c → c.Shaped

/-- The conditions on the journal together. -/
def Journal.Sound (j : Journal) : Prop := j.RingSound ∧ j.ReaderSound ∧ j.AgeSound ∧ j.RecordsShaped

/-! ## The command engine and the interrupt unit -/

/-- A schedule is DRAINING just while an accepted SCHED_FLUSH of its axis executes (R45, R46), and the entries still in it
are no more than the flush set out to remove (R68, R70). -/
def State.DrainSound (s : State) : Prop :=
  ∀ n, ((s.schedule n).draining = true ↔ axisOf s.engine.unit = n ∧ ∃ total, s.engine.phase = .flushing total) ∧
    ∀ total, axisOf s.engine.unit = n → s.engine.phase = .flushing total → (s.schedule n).list.length ≤ total

/-- The position of JRNL_READY holds no sticky flag (R175). -/
def Interrupts.Sound (i : Interrupts) : Prop := i.flags.getLsbD readyNumber = false

/-! ## The words of the statements -/

/-- The unit number that names an axis. -/
def unitOfAxis (n : AxisNo) : UnitNo := BitVec.ofNat 4 n.val

/-- The unit number that names an output line. -/
def unitOfLine (l : LineNo) : UnitNo := BitVec.ofNat 4 l.val

/-- The row of the table that carries a command of 09 section 9.9 out. -/
def Command.row (c : Command) (u : UnitNo) : Instr :=
  match c with
  | .schedAppend => .schedAppend u | .schedSkip => .schedSkip u | .schedFlush => .schedFlush u
  | .schedHold => .schedHold u | .schedRun => .schedRun u | .axisConfig => .axisConfig u | .axisStart => .axisStart u
  | .axisStop => .axisStop u | .axisResume => .axisResume u | .axisSetpos => .axisSetpos u | .axisClrerr => .axisClrerr u
  | .axisReset => .axisReset u | .homeArm => .homeArm u | .homeCancel => .homeCancel u | .outSet => .outSet u
  | .outClear => .outClear u | .outToggle => .outToggle u | .outPulse => .outPulse u | .timeSet => .timeSet u
  | .syncArm => .syncArm u | .syncDisarm => .syncDisarm u | .snapshot => .snapshot u | .chipReset => .chipReset u

/-- RESETn is released, and the command `c` for the unit `u` has been issued and is next taken by its owner (R163,
R165). -/
def State.Waits (c : Command) (u : UnitNo) (s : State) : Prop :=
  s.inReset = false ∧ s.engine.phase = .issued ∧ s.engine.opcode = c.code ∧ s.engine.unit = u

/-- RESETn is released and the command engine is IDLE. -/
def State.Idle (s : State) : Prop := s.inReset = false ∧ s.engine.phase = .idle

/-- RESETn is released, and the decoder of axis `n` is about to take a counting step whose direction after inversion is `d`
(R3, R7). -/
def State.Steps (n : AxisNo) (d : Direction) (s : State) : Prop :=
  s.inReset = false ∧ (s.axis n).state = .counting ∧ (s.axis n).filtered ≠ (s.axis n).phase ∧
  decode (s.axis n).config.decodeMode (s.axis n).phase (s.axis n).filtered =
    (if (s.axis n).config.invert then (if d = .forward then .minus else .plus)
     else (if d = .forward then .plus else .minus))

/-- The position that a step of an axis reaches (R8, R9). -/
def Axis.Reaches (d : Direction) (p : BitVec 32) (x : Axis) : Prop :=
  match x.config.range, d with
  | .linear, .forward => p.toInt = if x.position.toInt = 2 ^ 31 - 1 then -2 ^ 31 else x.position.toInt + 1
  | .linear, .reverse => p.toInt = if x.position.toInt = -2 ^ 31 then 2 ^ 31 - 1 else x.position.toInt - 1
  | .rotary, .forward => p.toNat = if x.position.toNat = x.config.modulus.toNat - 1 then 0 else x.position.toNat + 1
  | .rotary, .reverse => p.toNat = if x.position.toNat = 0 then x.config.modulus.toNat - 1 else x.position.toNat - 1

/-- The revolution count after a step, as a signed number that wraps (R8, R9). -/
def Axis.Revolves (d : Direction) (r : BitVec 16) (x : Axis) : Prop :=
  match x.config.range, d with
  | .linear, _ => r = x.revolution
  | .rotary, .forward =>
    r.toInt = if x.position.toNat = x.config.modulus.toNat - 1 then (x.revolution.toInt + 1).bmod (2 ^ 16)
              else x.revolution.toInt
  | .rotary, .reverse =>
    r.toInt = if x.position.toNat = 0 then (x.revolution.toInt - 1).bmod (2 ^ 16) else x.revolution.toInt

/-- The conditions under which the schedule of axis `n` compares its head with an arrival (R51): it is ACTIVE with the head
`k`, its gate is open and its axis is COUNTING. -/
def State.Live (n : AxisNo) (k : Slot) (s : State) : Prop :=
  (s.schedule n).list.head? = some k ∧ (s.schedule n).runMode = .run ∧ (s.schedule n).draining = false ∧
  (s.axis n).state = .counting ∧
  match (s.axis n).config.gate with
  | .none => True
  | .onLevel t high => (s.trigger t).level = high

/-- Every unit of the part keeps the conditions of its chapter: axes, lines, triggers, timebase, drain, flags. -/
def State.UnitsSound (s : State) : Prop :=
  (∀ n, (s.axis n).PositionSound ∧ (s.axis n).ErrorsSound) ∧ (∀ l, (s.line l).Sound) ∧ (∀ n, (s.trigger n).Sound) ∧
  s.timebase.TrimSound ∧ s.DrainSound ∧ s.interrupts.Sound

/-- Every enable, and every sticky flag that is not listed, is as before. -/
def Interrupts.SameBut (fs : List Flag) (i j : Interrupts) : Prop :=
  j.enables = i.enables ∧ ∀ f, f ∉ fs → j.isSet f = i.isSet f

/-- The next tick brings the interval count to the interval in force: it is the adjusted tick (R122). -/
def Timebase.AtAdjustedTick (b : Timebase) : Prop := b.trimMode ≠ .off ∧ b.intervalCount + 1 = b.interval.toNat

/-- The step wraps a LINEAR axis with record wraps on, and so offers a WRAP record (R8). -/
abbrev Axis.Wraps (d : Direction) (x : Axis) : Prop :=
  x.config.range = .linear ∧ x.config.recordWraps = true ∧
  x.position.toInt = (if d = .forward then 2 ^ 31 - 1 else -2 ^ 31)

/-- The journal after the WRAP record of a step to `p`, where the step offers one. It carries the time at the sample point
(R1, R8). -/
def State.wrapped (n : AxisNo) (d : Direction) (p : BitVec 32) (s : State) : Journal :=
  if (s.axis n).Wraps d then
    s.journal.offer { source := .counter n, content :=
      { cause := .wrap, axis := some n, stamp := (s.axis n).sampledAt, position := some p,
        aux := some (if d = .forward then 0 else 1) } }
  else s.journal

/-! ## Ticks -/

/-- Every event of a sample point taken so far has been taken (R1) [3]. -/
def State.SamplesTaken (s : State) : Prop :=
  (∀ n, (s.axis n).toEvaluate = false ∧ (s.axis n).zChanged = false) ∧ (∀ n, (s.trigger n).changed = false) ∧
  s.timebase.changed = false

/-- Every timer that has counted its full length has expired (R91, R112), and an age timer that has come to the hold time
has set the age latch (R155) [2]. -/
def State.ExpiriesTaken (s : State) : Prop :=
  (∀ n, (s.trigger n).timer ≠ some 0) ∧ (∀ l, (s.line l).widthTimer ≠ some 0 ∧ (s.line l).gapTimer ≠ some 0) ∧
  (s.aged = true → s.journal.ageLatch = true)

/-- Nothing is left that the next tick ends: the events of the sample points, and, where the counters of CLKIN have still to
count that tick, the expiries [2] [3]. -/
def State.Settled (s : State) : Prop := s.SamplesTaken ∧ (s.counted = false → s.ExpiriesTaken)

/-- Whether the condition of an event that falls together with a tick of CLKIN holds at the tick that the counters counted
last; `none` for the other commands. -/
def State.reached (c : Instr) (s : State) : Option Bool :=
  match c with
  | .filterSamplePoint (.axis n _ _ _) => some (s.axis n).divider.due
  | .filterSamplePoint (.trigger n _) => some (s.trigger n).divider.due
  | .filterSamplePoint (.sync _) => some s.timebase.sampleDue
  | .widthExpiry l => some ((s.line l).widthTimer = some 0)
  | .gapExpiry l => some ((s.line l).gapTimer = some 0)
  | .holdoffExpiry n => some ((s.trigger n).timer = some 0)
  | .ageLatchSet => some s.aged
  | _ => none

/-- The counters of CLKIN count the coming tick at this command, and what is left of the tick before it ends: a tick, or an
event that falls together with the coming tick and is taken before it (R121) [2] [3]. -/
def State.EndsTheTickBefore (c : Instr) (s : State) : Prop :=
  c = .timebaseTick ∨ c = .trimAdjustedTick ∨ (s.reached c = some false ∧ s.counted = false)

/-- The command takes its own event and none that is left over [3]. -/
def State.TakesItsOwnEvent (c : Instr) (s : State) : Prop := s.EndsTheTickBefore c → s.Settled

/-- The row of a host action at the journal. -/
def hostActionRow : HostAction → Instr
  | .openRecord => .readerOpen
  | .release => .readerRelease
  | .discard => .readerDiscard
  | .readOverwrites => .overwriteCountRead

end Sys2Proof.Machine
end

