-- ==== Sys2Proof/WellFormed.lean ====
section
/-! DEFINITION. When a command is well formed. The operand types bound every operand of a row that the rules bound but one:
the address of a REGISTER_WRITE, which is an address that no other row of the table writes or acts on. -/
namespace Sys2Proof

/-- An address whose write access is the REGISTER_WRITE row: ARG0 to ARG3 (0x08 to 0x0B), the trim interval halves (0x65,
0x66), and every address whose write is ignored (R185): no location, read only, or read with a side effect. The others
belong to a write row of their own. -/
def plainRegister (a : Address) : Bool :=
  let x := a.toNat
  !(x = 0x01 || x = 0x02 || x = 0x04 || (0x0C ≤ x && x ≤ 0x16) || (0x18 ≤ x && x ≤ 0x1F) || (0x40 ≤ x && x ≤ 0x4F) ||
    (0x58 ≤ x && x ≤ 0x5F) || x = 0x63 || x = 0x64 || x = 0x70 || x = 0x72 || x = 0x73 || x = 0x76)

/-- The halfwords that name a reader action (R148). -/
def readerActionCode (d : Halfword) : Bool := d = 1 || d = 2 || d = 3

/-- A well-formed command. A write to JCTRL that names no reader action is a REGISTER_WRITE too (R148, R193). -/
def Instr.wellFormed : Instr → Bool
  | .registerWrite a d => plainRegister a || (a = 0x70 && !readerActionCode d)
  | _ => true

end Sys2Proof
end

