-- ==== Sys2Proof/Certificates/Slice0/Obligations.lean ====
section
/-! DEFINITION. The statements for the provers, chapter by chapter of the spec. -/
open Sys2Proof Sys2Proof.Machine

/-! ## The queue -/

/-- The command at the front of the queue is carried out on the state with the queue's rest, and an empty queue leaves the
state as it is. The queue is the model's own [1]. -/
def Obligations.StepTakesTheFrontCommand : Prop :=
  ∀ (c : Instr) (rest : List Instr) (s : State),
    step { s with pending := c :: rest } = exec c { s with pending := rest } ∧
    step { s with pending := [] } = .next { s with pending := [] }

/-- Every command answers a next state from every state in which an append in progress finds its slots (R35, R40, R41), and
leaves the queue alone; from the other states APPEND_STEP alone can stop, with an empty free list [12]. -/
def Obligations.EveryCommandAnswersANextState : Prop :=
  (∀ (c : Instr) (s : State), s.PoolSound → ∃ t, exec c s = .next t ∧ t.pending = s.pending) ∧
  ∀ (c : Instr) (s : State), (∀ t, exec c s ≠ .next t) →
    c = .appendStep ∧ s.pool.free = [] ∧ exec c s = .fault .poolExhausted

/-! ## Resets -/

/-- Assertion and release of RESETn. While it is asserted no access and no event is taken (R133, R173, R185; DEDUCED for the
machine-side events [6]), and every block holds the reset values of its chapter (R22, R23, R34, R38, R76, R88, R107, R120,
R133, R160, R173, R181, R188, R191, R193): the sample dividers are restarted, the run counts are 0 and each filter takes the
raw value at its first sample point, and no change of a filtered level and no sample point is outstanding. That RESETn has a
row of its own for its release, and that the queue is kept, is the model's choice [5]. -/
def Obligations.PinResetGivesEveryResetValue : Prop :=
  (∀ s : State, exec .resetnRelease s = .next { s with inReset := false }) ∧
  (∀ (c : Instr) (s : State), s.inReset = true → c ≠ .pinReset → c ≠ .resetnRelease → exec c s = .next s) ∧
  ∀ s : State, ∃ t, exec .pinReset s = .next t ∧
    t.inReset = true ∧ t.counted = false ∧ t.pending = s.pending ∧
    (∀ n, (t.axis n).config = {
        decodeMode := .quadX4, invert := false, range := .linear, modulus := 0, filterLength := 0, sampleClock := .div1,
        recordWraps := false, recordPhaseErrors := false, faultThreshold := 0, indexPolarity := .highGoing,
        gatePhase := none, indexDirection := .any, recordIndex := false, reference := 0, quota := 32, gate := .none } ∧
      (t.axis n).state = .stopped ∧ (t.axis n).position = 0 ∧ (t.axis n).revolution = 0 ∧
      (t.axis n).direction = .forward ∧ (t.axis n).phase = { a := false, b := false } ∧ (t.axis n).errorTotal = 0 ∧
      (t.axis n).errorSince = 0 ∧ (t.axis n).homing = .unreferenced ∧
      (t.axis n).filterA.run = 0 ∧ (t.axis n).filterB.run = 0 ∧ (t.axis n).filterZ.run = 0 ∧
      (t.axis n).filterA.fresh = true ∧ (t.axis n).filterB.fresh = true ∧ (t.axis n).filterZ.fresh = true ∧
      (t.axis n).divider = { count := 0, due := false } ∧ (t.axis n).zChanged = false ∧
      t.schedule n = { list := [], runMode := .run, draining := false, compareDue := false } ∧
      t.bus.positionShadows[n] = { position := 0, revolution := 0 }) ∧
    t.pool.free = List.finRange 128 ∧
    (∀ l, t.line l = {
      state := .static, staticLevel := false, pulseLevel := true, width := 10, gap := 10, policy := .discard,
      collisions := 0, widthTimer := none, gapTimer := none }) ∧
    (∀ n, (t.trigger n).state = .ready ∧ (t.trigger n).timer = none ∧ (t.trigger n).suppressed = 0 ∧
      (t.trigger n).edge = .off ∧ (t.trigger n).filterLength = 0 ∧ (t.trigger n).sampleClock = .div1 ∧
      (t.trigger n).snap = false ∧ (t.trigger n).pulseEnable = false ∧ (t.trigger n).pulseLine = 0 ∧
      (t.trigger n).holdoff = 0 ∧ (t.trigger n).filter.run = 0 ∧ (t.trigger n).filter.fresh = true ∧
      (t.trigger n).divider = { count := 0, due := false } ∧ (t.trigger n).changed = false) ∧
    t.timebase.time = 0 ∧ t.timebase.trimMode = .off ∧ t.timebase.interval = 16 ∧ t.timebase.stagedInterval = 16 ∧
    t.timebase.intervalCount = 0 ∧ t.timebase.adds = 0 ∧ t.timebase.skips = 0 ∧ t.timebase.syncMode = .off ∧
    t.timebase.syncEdge = .rise ∧ t.timebase.syncState = .free ∧ t.timebase.loadValue = 0 ∧
    t.timebase.filter.run = 0 ∧ t.timebase.filter.fresh = true ∧ t.timebase.sampleDue = false ∧
    t.timebase.changed = false ∧
    t.journal.ring = [] ∧ t.journal.nextSeq = 0 ∧ t.journal.mode = .stop ∧ t.journal.threshold = 1 ∧
    t.journal.holdTime = 0 ∧ t.journal.pendingLoss = 0 ∧ t.journal.overwrites = 0 ∧ t.journal.reader = .closed ∧
    t.journal.openedMark = false ∧ t.journal.view = [] ∧ t.journal.viewPointer = 0 ∧ t.journal.age = none ∧
    t.journal.ageLatch = false ∧ t.journal.lastAccess = .none ∧
    t.engine.phase = .idle ∧ t.engine.opcode = 0 ∧ t.engine.unit = 0 ∧ t.engine.result = .none ∧ t.engine.detail = 0 ∧
    t.engine.aux = 0 ∧ t.engine.stageSel = 0 ∧ (∀ k : Fin 4, t.engine.args[k] = 0 ∧ t.engine.argCopy[k] = 0) ∧
    (∀ k : Fin 8, t.engine.staged[k] = {
      target := 0, qualifier := 0, op := 0, line := 0, record := 0, tag := 0, count := 1, stride := 0,
      deadlinePresent := false, deadline := 0 }) ∧
    (∀ k : Fin 8, t.engine.axisStaging.read k = if k = 6 then 32 else 0) ∧
    t.interrupts = { flags := 0, enables := 0 } ∧ t.irqnLow = false ∧ t.bus.timeShadow = 0 ∧ t.bus.dataOut = none

/-- CHIP_RESET (R171): from IDLE, whatever its unit number, and when it waits, it takes the whole part to the reset values
with the filtered levels kept, and completes with CMD_DONE as the one flag set; while another command executes it is an
overrun and resets nothing. The model's choices: the records of the pool are blank [10]; the driven halfword is kept [11];
from IDLE the row is the host's write and the owner's event in one step [13]; changes of filtered levels that are not taken,
the sample points of the dividers that restart and the deadline comparisons are dropped, and so is the moment of the journal,
while a sample point of SYNC, which has no divider that restarts, may still be taken (R172) [19]; and where the counters of
CLKIN have counted the coming tick, they have [3]. -/
def Obligations.ChipResetTakesTheWholePart : Prop :=
  ∀ (u : UnitNo) (s : State),
    (s.Idle ∨ s.Waits .chipReset u → exec (.chipReset u) s = .next {
      State.reset with
      axes := s.axes.map fun x => { Axis.reset with
        filterA := { x.filterA with run := 0 }, filterB := { x.filterB with run := 0 },
        filterZ := { x.filterZ with run := 0 } }
      triggers := s.triggers.map fun x => { Trigger.reset with filter := { x.filter with run := 0 } }
      timebase := { Timebase.reset with
        filter := { s.timebase.filter with run := 0 }, sampleDue := s.timebase.sampleDue }
      engine := { Engine.reset with opcode := 0x7F, unit := u, result := .ok }
      interrupts := { flags := 1, enables := 0 }
      bus := { BusInterface.reset with dataOut := s.bus.dataOut }
      counted := s.counted
      pending := s.pending }) ∧
    (s.inReset = false → s.engine.phase ≠ .idle → ¬ s.Waits .chipReset u →
      exec (.chipReset u) s = .next { s with interrupts := s.interrupts.raise .cmdOverrun })

/-! ## The command engine -/

/-- COMMAND_WRITE (R163, R164): from IDLE the command word and the argument copy are stored and the two common checks are
made in order; the first that fails completes the command at once, and otherwise it is EXECUTING. While EXECUTING the write
is an overrun. -/
def Obligations.CommandWriteStoresChecksAndIssues : Prop :=
  ∀ (d : Halfword) (s : State), s.inReset = false →
    let e : Engine := { s.engine with opcode := d.extractLsb' 0 8, unit := d.extractLsb' 8 4, argCopy := s.engine.args }
    (s.engine.phase = .idle →
      (∀ c : Command, c.code = e.opcode → e.unit.toNat < c.units →
        exec (.commandWrite d) s = .next { s with engine := { e with phase := .issued } }) ∧
      (∀ c : Command, c.code = e.opcode → c.units ≤ e.unit.toNat →
        exec (.commandWrite d) s = .next { s with
          engine := { e with result := .badArg, detail := 65535, aux := e.unit.setWidth 16 }
          interrupts := (s.interrupts.raise .cmdDone).raise .cmdErr }) ∧
      ((∀ c : Command, c.code ≠ e.opcode) →
        exec (.commandWrite d) s = .next { s with
          engine := { e with result := .badOpcode, detail := e.opcode.setWidth 16, aux := 0 }
          interrupts := (s.interrupts.raise .cmdDone).raise .cmdErr })) ∧
    (s.engine.phase ≠ .idle → exec (.commandWrite d) s = .next { s with interrupts := s.interrupts.raise .cmdOverrun })

/-- R167: while a command executes, every command write, whatever it names, and every command row but that of the command
that waits sets CMD_OVERRUN and changes nothing else. -/
def Obligations.CommandDuringExecutionIsAnOverrun : Prop :=
  ∀ s : State, s.inReset = false → s.engine.phase ≠ .idle →
    (∀ d : Halfword, exec (.commandWrite d) s = .next { s with interrupts := s.interrupts.raise .cmdOverrun }) ∧
    ∀ (c : Command) (u : UnitNo), ¬ s.Waits c u →
      exec (c.row u) s = .next { s with interrupts := s.interrupts.raise .cmdOverrun }

/-- A command row taken while the engine is IDLE is the host's write of its command word followed, when the common checks
pass, by its owner's event (R163, R165) [13]. -/
def Obligations.CommandRowIsItsWriteAndItsEvent : Prop :=
  ∀ (c : Command) (u : UnitNo) (s : State), s.Idle →
    ∃ t, exec (.commandWrite (commandWord c u)) s = .next t ∧
      (u.toNat < c.units → t.Waits c u ∧ exec (c.row u) s = exec (c.row u) t) ∧
      (c.units ≤ u.toNat → exec (c.row u) s = .next t)

/-- A completion stores the result, the detail and the aux, sets CMD_DONE, sets CMD_ERR when the code is not OK, and leaves
the engine IDLE; the result changes, and an executing command ends, at a completion and at pin reset, and at no other event
(R166). A completion falls at a command write to an engine that is IDLE (R163, R164), by COMMAND_WRITE or by the write of
address 0x04 [17]; at the row of a command, when the command waits or the engine is IDLE (R165) [13]; and at
APPEND_COMPLETION and FLUSH_COMPLETION after the last step (R43, R71). -/
def Obligations.ResultChangesOnlyAtACompletion : Prop :=
  (∀ (code : ResultCode) (detail aux : BitVec 16) (s : State), s.complete code detail aux = { s with
    engine := { s.engine with phase := .idle, result := code, detail := detail, aux := aux }
    interrupts := if code = .ok then s.interrupts.raise .cmdDone else (s.interrupts.raise .cmdDone).raise .cmdErr }) ∧
  ∀ (c : Instr) (s t : State), exec c s = .next t →
    (t.engine.result ≠ s.engine.result ∨ t.engine.detail ≠ s.engine.detail ∨ t.engine.aux ≠ s.engine.aux ∨
      (s.engine.phase ≠ .idle ∧ t.engine.phase = .idle)) →
    c ≠ .pinReset →
    (∃ (u : State) (code : ResultCode) (detail aux : BitVec 16), t = u.complete code detail aux) ∧
    ((s.engine.phase = .idle ∧ ∃ d, c = .commandWrite d ∨ c = .registerWrite 0x04 d) ∨
     (∃ (k : Command) (v : UnitNo), c = k.row v ∧ (s.engine.phase = .idle ∨ s.Waits k v)) ∨
     (c = .appendCompletion ∧ ∃ p, s.engine.phase = .appending p ∧ p.left = 0) ∨
     (c = .flushCompletion ∧ ∃ total, s.engine.phase = .flushing total))

/-- The two staging areas. STAGE_SEL takes 0 to 7 and ignores a larger number (R32); a staged entry write stores the
halfword as written in the fields that its bits name (R190 and the layout of the staged entry) of the selected entry, so
that its location reads it back; an accepted append locks both (R33). A write to the axis configuration staging record is
stored in the same way (R170, R191) unless an AXIS_CONFIG executes. -/
def Obligations.StagingWritesAreStoredOrLocked : Prop :=
  ∀ s : State, s.inReset = false →
    ((∀ p, s.engine.phase ≠ .appending p) → ∀ d : Halfword,
      (∀ h : d.toNat < 8, exec (.stageSelWrite d) s = .next { s with engine := { s.engine with stageSel := ⟨d.toNat, h⟩ } }) ∧
      (8 ≤ d.toNat → exec (.stageSelWrite d) s = .next s) ∧
      ∀ k : Fin 10,
        let g := s.engine.staged[s.engine.stageSel]
        let e : StagedEntry := match k with
          | 0 => { g with target := g.target.extractLsb' 16 16 ++ d }
          | 1 => { g with target := d ++ g.target.extractLsb' 0 16 }
          | 2 => { g with qualifier := d.extractLsb' 0 2, op := d.extractLsb' 2 3, line := d.extractLsb' 5 4,
                          record := d.extractLsb' 9 2, deadlinePresent := d.getLsbD 15 }
          | 3 => { g with tag := d.extractLsb' 0 8 }
          | 4 => { g with count := d }
          | 5 => { g with stride := g.stride.extractLsb' 16 16 ++ d }
          | 6 => { g with stride := d ++ g.stride.extractLsb' 0 16 }
          | 7 => { g with deadline := g.deadline.extractLsb' 16 32 ++ d }
          | 8 => { g with deadline := g.deadline.extractLsb' 32 16 ++ d ++ g.deadline.extractLsb' 0 16 }
          | 9 => { g with deadline := d ++ g.deadline.extractLsb' 0 32 }
        exec (.stagedEntryWrite k d) s = .next { s with
          engine := { s.engine with staged := s.engine.staged.set s.engine.stageSel e } } ∧
        (k ≠ 2 → k ≠ 3 → e.read k = d) ∧ (k = 2 → e.read k = d &&& 0x87FF) ∧ (k = 3 → e.read k = d &&& 0x00FF) ∧
        ∀ k', k' ≠ k → e.read k' = g.read k') ∧
    ((∃ p, s.engine.phase = .appending p) → ∀ (d : Halfword) (k : Fin 10),
      exec (.stageSelWrite d) s = .next s ∧ exec (.stagedEntryWrite k d) s = .next s) ∧
    ∀ (d : Halfword) (k : Fin 8),
      let g := s.engine.axisStaging
      let r : AxisStaging := match k with
        | 0 => { g with decodeMode := d.extractLsb' 0 3, invert := d.getLsbD 3, range := d.extractLsb' 4 2,
                        recordWraps := d.getLsbD 6, recordPhaseErrors := d.getLsbD 7,
                        sampleClock := d.extractLsb' 8 2, filterLength := d.extractLsb' 10 4 }
        | 1 => { g with faultThreshold := d.extractLsb' 0 8, indexPolarity := d.getLsbD 8,
                        gatePhase := d.extractLsb' 9 3, indexDirection := d.extractLsb' 12 2, recordIndex := d.getLsbD 14 }
        | 2 => { g with modulus := g.modulus.extractLsb' 16 16 ++ d }
        | 3 => { g with modulus := d ++ g.modulus.extractLsb' 0 16 }
        | 4 => { g with reference := g.reference.extractLsb' 16 16 ++ d }
        | 5 => { g with reference := d ++ g.reference.extractLsb' 0 16 }
        | 6 => { g with quota := d.extractLsb' 0 8 }
        | 7 => { g with gateKind := d.extractLsb' 0 2, gateTrigger := d.extractLsb' 4 3 }
      (s.engine.phase = .idle ∨ s.engine.opcode ≠ 0x10 →
        exec (.axisStagingWrite k d) s = .next { s with engine := { s.engine with axisStaging := r } }) ∧
      (r.read k = d &&& (match k with
          | 0 => 0x3FFF | 1 => 0x7FFF | 2 => 0xFFFF | 3 => 0xFFFF | 4 => 0xFFFF | 5 => 0xFFFF | 6 => 0x00FF | 7 => 0x0073) ∧
        ∀ k', k' ≠ k → r.read k' = g.read k') ∧
      (s.engine.phase ≠ .idle → s.engine.opcode = 0x10 → exec (.axisStagingWrite k d) s = .next s)

/-! ## Filters, decoder and position -/

/-- Filters (R1). A raw value that equals the filtered value clears the run count; one that differs raises it, and at the
filter length plus one it is taken, so that a change comes at the (L+1)th consecutive differing sample point. The first
sample point after pin reset takes the raw value (R23). FILTER_SAMPLE_POINT: at a sample point that is due, the three lines
of an axis together, a trigger line or SYNC go through their filters, with the length of the live configuration, of the
trigger, or 2 (R1, R2, R108, R127), the change that the block will take is marked, and the time is kept for the records of
its events; the first value after pin reset is no change (R77, R109, R133). A sample point is due from the tick that reaches
it; it may be taken before that tick too (R121, `Obligations.TickMovesTheCountersOfClkin`) [3]. The level of a trigger that
its gate and its location show is the level before a change that is not taken (R115) [3]. -/
def Obligations.SamplePointFeedsTheFilters : Prop :=
  (∀ (L : Nat) (f : Filter), f.fresh = false → f.run ≤ L →
    f.sample L f.level = { f with run := 0 } ∧
    (∀ k, k + f.run ≤ L → (Filter.sample L (!f.level))^[k] f = { f with run := f.run + k }) ∧
    (Filter.sample L (!f.level))^[L + 1 - f.run] f = { f with level := !f.level, run := 0 }) ∧
  (∀ (L : Nat) (raw : Bool) (f : Filter), f.fresh = true →
    f.sample L raw = { level := raw, run := 0, fresh := false }) ∧
  ∀ s : State, s.inReset = false →
    (∀ (n : AxisNo) (a b z : Bool),
      let x := s.axis n
      let L := x.config.filterLength.toNat
      x.divider.due = true → exec (.filterSamplePoint (.axis n a b z)) s = .next { s with
        axes := s.axes.set n { x with
                 filterA := x.filterA.sample L a, filterB := x.filterB.sample L b, filterZ := x.filterZ.sample L z,
                 zChanged := !x.filterZ.fresh && ((x.filterZ.sample L z).level != x.filterZ.level),
                 sampledAt := s.timebase.time,
                 divider := { x.divider with due := false } } }) ∧
    (∀ (n : TriggerNo) (raw : Bool),
      let x := s.trigger n
      let g := x.filter.sample x.filterLength.toNat raw
      (x.divider.due = true → exec (.filterSamplePoint (.trigger n raw)) s = .next { s with
        triggers := s.triggers.set n { x with
                 filter := g, changed := !x.filter.fresh && (g.level != x.filter.level), sampledAt := s.timebase.time,
                 divider := { x.divider with due := false } } }) ∧
      (x.filter.fresh = false → x.changed = false →
        ({ x with filter := g, changed := g.level != x.filter.level }).level = x.level ∧
        ({ x with filter := g, changed := false }).level = g.level)) ∧
    ∀ raw : Bool,
      let x := s.timebase
      let g := x.filter.sample 2 raw
      x.sampleDue = true → exec (.filterSamplePoint (.sync raw)) s = .next { s with
        timebase := { x with filter := g, changed := !x.filter.fresh && (g.level != x.filter.level), sampleDue := false } }

/-- The decode tables (R4, R5, R6): the forward sequence is 00, 10, 11, 01, and the reverse sequence runs the other way;
QUAD_X4 counts every legal change, QUAD_X2 the changes of A, QUAD_X1 those between 00 and 10; STEP_DIR steps on a rising A
by the new B; UP_DOWN counts rising edges, and two together cancel. -/
def Obligations.DecodeModesCountTheirTables : Prop :=
  let pair (a b : Bool) : LinePair := { a := a, b := b }
  let forward (p : LinePair) : LinePair := pair (!p.b) p.a
  (∀ p : LinePair, decode .quadX4 p (forward p) = .plus ∧ decode .quadX4 (forward p) p = .minus) ∧
  (∀ p q : LinePair, p.a ≠ q.a → p.b = q.b → decode .quadX2 p q = decode .quadX4 p q) ∧
  (∀ p q : LinePair, p.a = q.a → p.b ≠ q.b → decode .quadX2 p q = .noStep ∧ decode .quadX1 p q = .noStep) ∧
  decode .quadX1 (pair false false) (pair true false) = .plus ∧
  decode .quadX1 (pair true false) (pair false false) = .minus ∧
  decode .quadX1 (pair true true) (pair false true) = .noStep ∧
  decode .quadX1 (pair false true) (pair true true) = .noStep ∧
  (∀ p q : LinePair, p.a ≠ q.a → p.b ≠ q.b →
    decode .quadX4 p q = .phaseError ∧ decode .quadX2 p q = .phaseError ∧ decode .quadX1 p q = .phaseError) ∧
  (∀ p q : LinePair, decode .stepDir p q =
    if p.a = false ∧ q.a = true then (if q.b = false then .plus else .minus) else .noStep) ∧
  ∀ p q : LinePair, decode .upDown p q =
    if p.a = false ∧ q.a = true then (if p.b = false ∧ q.b = true then .cancelled else .plus)
    else if p.b = false ∧ q.b = true then .minus else .noStep

/-- R3, R13: the decoder does nothing unless the axis is COUNTING and the filtered pair differs from the decoder phase; an
evaluation without a step, and a cancelled pair, change the decoder phase alone. A host action that the command carries is
taken all the same [15]. -/
def Obligations.EvaluationWithoutAStepTakesThePairAlone : Prop :=
  ∀ (n : AxisNo) (h : Option HostAction) (s : State), s.inReset = false →
    let x := s.axis n
    let done := exec (.decoderEvaluation { axis := n, between := h }) s
    ((x.state ≠ .counting ∨ x.filtered = x.phase) → done = .next (s.perform h)) ∧
    (x.state = .counting → x.filtered ≠ x.phase →
      (decode x.config.decodeMode x.phase x.filtered = .noStep ∨
        decode x.config.decodeMode x.phase x.filtered = .cancelled) →
      done = .next (State.perform h { s with axes := s.axes.set n { x with phase := x.filtered } }))

/-- R11, R12: a phase error counts in both error counts, which stop at 65535 and 255, and moves nothing; it offers PHASE_ERR
when record phase errors is on; the one that brings the count since resume to the threshold faults the axis, offers FAULT
after it, and sets the axis's AX_FAULT. The records carry the time at the sample point (R1). JRNL_LOSS is set when a record
that is offered finds 64 in the ring (R139, R141), and no other flag changes. A host action that the command carries is taken
between the two admissions (R149) [15]. -/
def Obligations.PhaseErrorCountsAndFaultsAtTheThreshold : Prop :=
  ∀ (n : AxisNo) (h : Option HostAction) (s : State), s.inReset = false →
    let x := s.axis n
    x.state = .counting → decode x.config.decodeMode x.phase x.filtered = .phaseError →
    ∃ t y, exec (.decoderEvaluation { axis := n, between := h }) s = .next t ∧ t.axes = s.axes.set n y ∧
      y = { x with phase := x.filtered, errorTotal := y.errorTotal, errorSince := y.errorSince, state := y.state } ∧
      y.errorTotal.toNat = min (x.errorTotal.toNat + 1) 65535 ∧ y.errorSince.toNat = min (x.errorSince.toNat + 1) 255 ∧
      (let faulting := x.config.faultThreshold ≠ 0 ∧ x.errorSince.toNat + 1 = x.config.faultThreshold.toNat
       (faulting → y.state = .faulted) ∧ (¬ faulting → y.state = .counting) ∧
       (let error (cause : Cause) (v : BitVec 32) : Offer := { source := .counter n, content :=
          { cause := cause, axis := some n, stamp := x.sampledAt, position := some x.position,
            revolution := if x.config.range = .rotary then some x.revolution else none, value32 := some v } }
        let counted := if x.config.recordPhaseErrors then s.journal.offer (error .phaseErr (y.errorTotal.setWidth 32))
          else s.journal
        let j := h.elim counted (counted.perform s.now)
        (faulting → t.journal = j.offer (error .fault (y.errorSince.setWidth 32))) ∧ (¬ faulting → t.journal = j) ∧
        (t.interrupts.isSet .jrnlLoss = true ↔ s.interrupts.isSet .jrnlLoss = true ∨
          (x.config.recordPhaseErrors = true ∧ 64 ≤ s.journal.ring.length) ∨ (faulting ∧ 64 ≤ j.ring.length)) ∧
        t.bus = { s.bus with dataOut := (h.bind counted.driven).or s.bus.dataOut }) ∧
       (t.interrupts.isSet (.axFault n) = true ↔ s.interrupts.isSet (.axFault n) = true ∨ faulting)) ∧
      Interrupts.SameBut [.axFault n, .jrnlLoss] s.interrupts t.interrupts ∧
      t = { s with axes := t.axes, journal := t.journal, interrupts := t.interrupts, bus := t.bus }

/-- A counting step (R7, R8, R9, R10): the position moves by one, on a LINEAR axis modulo 2^32 as a signed value, on a
ROTARY axis within 0 to M−1 with the revolution count, the last direction becomes the step's, and the decoder phase takes
the pair. Nothing else of the axis changes, and no other axis. A step that does not bring the live schedule's head to its
target in a direction it accepts fires nothing (R52): the schedules, the pool and the lines are as before, no record but a
WRAP is offered, with the time at the sample point (R1), and JRNL_LOSS is set when the WRAP finds 64 records in the ring
(R139, R141). A host action that the command carries is taken after the admission of the WRAP (R149) [15]. -/
def Obligations.StepMovesThePositionByOne : Prop :=
  ∀ (n : AxisNo) (h : Option HostAction) (d : Direction) (s : State), s.Steps n d → (s.axis n).PositionSound →
    ∃ t p r, exec (.decoderEvaluation { axis := n, between := h }) s = .next t ∧ (s.axis n).Reaches d p ∧ (s.axis n).Revolves d r ∧
      t.axes = s.axes.set n
        { s.axis n with position := p, revolution := r, direction := d, phase := (s.axis n).filtered } ∧
      t.bus = { s.bus with dataOut := (h.bind (s.wrapped n d p).driven).or s.bus.dataOut } ∧
      t = { s with axes := t.axes, schedules := t.schedules, pool := t.pool, lines := t.lines, journal := t.journal,
                   interrupts := t.interrupts, bus := t.bus } ∧
      ((∀ k, s.Live n k → (s.entry k).target ≠ p ∨ ((s.entry k).qualifier ≠ .any ∧
          (s.entry k).qualifier ≠ (match d with | .forward => .forward | .reverse => .reverse))) →
        t.journal = h.elim (s.wrapped n d p) ((s.wrapped n d p).perform s.now) ∧
        Interrupts.SameBut [.jrnlLoss] s.interrupts t.interrupts ∧
        (t.interrupts.isSet .jrnlLoss = true ↔ s.interrupts.isSet .jrnlLoss = true ∨
          ((s.axis n).Wraps d ∧ 64 ≤ s.journal.ring.length)) ∧
        t = { s with axes := t.axes, journal := t.journal, interrupts := t.interrupts, bus := t.bus })

/-- A fire (R55, R56, R57, R58): a step brings the head of a live schedule to its target in a direction it accepts. The
line takes the entry's request, and a PULSE on a line that is not STATIC sets OUT_COLLIDE (R93, R99); a COMPARE record is
offered after any WRAP, with the time at the sample point (R1), unless the record field is NONE; JRNL_LOSS is set when a
record that is offered finds 64 in the ring (R139, R141); the remaining count falls by one; at 0 the slot goes to the tail of
the free list and the schedule may run dry, otherwise the target advances by the stride. A host action that the command
carries is taken after the admission of the WRAP and before that of the COMPARE (R149) [15]. -/
def Obligations.StepThatFiresItsHead : Prop :=
  ∀ (n : AxisNo) (h : Option HostAction) (d : Direction) (k : Slot) (rest : List Slot) (s : State),
    s.Steps n d → (s.axis n).PositionSound →
    s.Live n k → (s.schedule n).list = k :: rest → (s.entry k).ValidFor (s.axis n).config →
    (s.axis n).Reaches d (s.entry k).target →
    ((s.entry k).qualifier = .any ∨
      (s.entry k).qualifier = (match d with | .forward => .forward | .reverse => .reverse)) →
    ∃ t, exec (.decoderEvaluation { axis := n, between := h }) s = .next t ∧
      (let e := s.entry k
       let counted := s.wrapped n d e.target
       let j := h.elim counted (counted.perform s.now)
       t.axes = s.axes.set n (t.axis n) ∧ (t.axis n).position = e.target ∧
       ((e.op = .none ∧ t.lines = s.lines) ∨
        (∃ (l : LineNo) (q : RequestKind), l.val = e.line.toNat ∧ e.op.request = some q ∧ t.lines = s.lines.set l ((s.line l).take q))) ∧
       t.journal = (if e.record = .none then j else j.offer { source := .schedule n, content :=
         { cause := .compare, axis := some n, stamp := (s.axis n).sampledAt, position := some e.target,
           revolution := if (s.axis n).config.range = .rotary then some (t.axis n).revolution else none,
           gang := if e.record = .gang then some { positions := t.axes.map fun x =>
             if x.state = .stopped then none else some x.position } else none,
           entry := some { slot := k, tag := e.tag, remaining := e.remaining - 1 } } }) ∧
       (∃ target, t.pool.entries = s.pool.entries.set k { e with remaining := e.remaining - 1, target := target } ∧
         (e.remaining ≠ 1 → match (s.axis n).config.range with
           | .linear => target.toInt = (e.target.toInt + e.stride.toInt).bmod (2 ^ 32)
           | .rotary => (target.toNat : Int) = (e.target.toInt + e.stride.toInt) % ((s.axis n).config.modulus.toNat : Int))) ∧
       (e.remaining = 1 →
         t.pool.free = s.pool.free ++ [k] ∧ (t.schedule n).list = rest ∧
         (rest ≠ [] → (t.schedule n).compareDue = true) ∧
         (t.interrupts.isSet (.schedDry n) = true ↔ s.interrupts.isSet (.schedDry n) = true ∨ rest = [])) ∧
       (e.remaining ≠ 1 → t.pool.free = s.pool.free ∧ t.schedules = s.schedules ∧
         t.interrupts.isSet (.schedDry n) = s.interrupts.isSet (.schedDry n)) ∧
       t.schedules = s.schedules.set n { s.schedule n with
         list := (t.schedule n).list, compareDue := (t.schedule n).compareDue } ∧
       (t.interrupts.isSet .outCollide = true ↔ s.interrupts.isSet .outCollide = true ∨
         (e.op = .pulse ∧ ∃ l : LineNo, l.val = e.line.toNat ∧ (s.line l).state ≠ .static)) ∧
       (t.interrupts.isSet .jrnlLoss = true ↔ s.interrupts.isSet .jrnlLoss = true ∨
         ((s.axis n).Wraps d ∧ 64 ≤ s.journal.ring.length) ∨ (e.record ≠ .none ∧ 64 ≤ j.ring.length)) ∧
       Interrupts.SameBut [.jrnlLoss, .outCollide, .schedDry n] s.interrupts t.interrupts ∧
       t.bus = { s.bus with dataOut := (h.bind counted.driven).or s.bus.dataOut } ∧
       t = { s with axes := t.axes, schedules := t.schedules, pool := t.pool, lines := t.lines, journal := t.journal,
                    interrupts := t.interrupts, bus := t.bus })

/-- R52 over the whole table: the record of a head changes at a fire and at the resets of the part alone, and a fire is a
counting step of its axis that brings the position to the head's target, in a direction its qualifier accepts, while the
schedule is ACTIVE with its gate open and its axis COUNTING. A position load never causes one. A command that ends a tick
with events untaken is those events and then the command (`Obligations.TickAdvancesTheTime`) [3]. -/
def Obligations.HeadFiresOnlyAtAStepOntoItsTarget : Prop :=
  ∀ (c : Instr) (n : AxisNo) (k : Slot) (s t : State), s.PoolSound → s.TakesItsOwnEvent c → exec c s = .next t →
    (s.schedule n).list.head? = some k → t.entry k ≠ s.entry k →
    c = .pinReset ∨ (∃ u, c = .chipReset u) ∨
    ((∃ h, c = .decoderEvaluation { axis := n, between := h }) ∧ s.Live n k ∧ (t.axis n).position = (s.entry k).target ∧
      (s.entry k).qualifier.accepts (t.axis n).direction = true ∧ ∃ d, s.Steps n d)

/-! ## Axis commands -/

/-- AXIS_START, AXIS_RESUME, AXIS_STOP and AXIS_CLRERR (R14 to R17). An AXIS_RESUME, and an AXIS_STOP that ends FAULTED, take
up the head's deadline comparison (R60). A change of filtered Z that is not taken stands at each of the four commands
(R86). -/
def Obligations.StartResumeStopAndClearErrors : Prop :=
  ∀ (n : AxisNo) (s : State),
    let x := s.axis n
    let stopped := s.axes.set n { x with state := .stopped, errorSince := 0 }
    let counting := { x with state := .counting, phase := { a := x.filterA.level, b := x.filterB.level } }
    (s.Waits .axisStart (unitOfAxis n) →
      (x.state = .stopped → exec (.axisStart (unitOfAxis n)) s =
        .next (State.complete .ok 0 0 { s with axes := s.axes.set n counting })) ∧
      (x.state ≠ .stopped → exec (.axisStart (unitOfAxis n)) s = .next (s.complete .wrongState 0 0))) ∧
    (s.Waits .axisResume (unitOfAxis n) →
      (x.state = .faulted → exec (.axisResume (unitOfAxis n)) s = .next (State.complete .ok 0 0 { s with
        axes := s.axes.set n { counting with errorSince := 0 }
        schedules := s.schedules.set n { s.schedule n with compareDue := true } })) ∧
      (x.state ≠ .faulted → exec (.axisResume (unitOfAxis n)) s = .next (s.complete .wrongState 0 0))) ∧
    (s.Waits .axisStop (unitOfAxis n) →
      (x.state = .counting → exec (.axisStop (unitOfAxis n)) s =
        .next (State.complete .ok 0 0 { s with axes := stopped })) ∧
      (x.state = .faulted → exec (.axisStop (unitOfAxis n)) s = .next (State.complete .ok 0 0 { s with
        axes := stopped, schedules := s.schedules.set n { s.schedule n with compareDue := true } })) ∧
      (x.state = .stopped → exec (.axisStop (unitOfAxis n)) s = .next (s.complete .wrongState 0 0))) ∧
    (s.Waits .axisClrerr (unitOfAxis n) → exec (.axisClrerr (unitOfAxis n)) s = .next (State.complete .ok 0 0
      { s with axes := s.axes.set n { x with errorTotal := 0, errorSince := 0 } }))

/-- AXIS_SETPOS (R18). -/
def Obligations.SetposLoadsThePosition : Prop :=
  ∀ (n : AxisNo) (s : State), s.Waits .axisSetpos (unitOfAxis n) →
    let x := s.axis n
    let v : BitVec 32 := s.engine.argCopy[1] ++ s.engine.argCopy[0]
    (x.config.range = .linear → exec (.axisSetpos (unitOfAxis n)) s =
      .next (State.complete .ok 0 0 { s with axes := s.axes.set n { x with position := v } })) ∧
    (x.config.range = .rotary → 0 ≤ v.toInt → v.toInt < x.config.modulus.toNat →
      exec (.axisSetpos (unitOfAxis n)) s =
        .next (State.complete .ok 0 0 { s with axes := s.axes.set n { x with position := v, revolution := 0 } })) ∧
    (x.config.range = .rotary → (v.toInt < 0 ∨ (x.config.modulus.toNat : Int) ≤ v.toInt) →
      exec (.axisSetpos (unitOfAxis n)) s = .next (s.complete .badArg 0 0))

/-- AXIS_CONFIG (R20, R21): WRONG_STATE unless the axis is STOPPED and its schedule empty and not DRAINING; BAD_ARG with the
number of the first field that fails its check; otherwise the live configuration takes the record, each field by the codes of
R191, the filters keep their levels with their run counts 0, the divider restarts, a change of filtered Z that is not taken
is dropped [19], and the position and the revolution count go to 0 when the range or a rotary modulus changes. -/
def Obligations.ConfigJudgesTheRecordThenCopiesIt : Prop :=
  ∀ (n : AxisNo) (s : State), s.Waits .axisConfig (unitOfAxis n) →
    let x := s.axis n
    let r := s.engine.axisStaging
    let ready := x.state = .stopped ∧ (s.schedule n).list = [] ∧ (s.schedule n).draining = false
    let rotary := r.range = 1
    let fails : Nat → Prop := fun k => match k with
      | 0 => 5 ≤ r.decodeMode.toNat
      | 2 => 2 ≤ r.range.toNat
      | 3 => rotary ∧ (r.modulus.toNat < 2 ∨ 16777216 < r.modulus.toNat)
      | 10 => r.gatePhase.toNat = 1 ∨ r.gatePhase.toNat = 2 ∨ r.gatePhase.toNat = 3
      | 11 => r.indexDirection.toNat = 3
      | 13 => rotary ∧ (r.reference.toInt < 0 ∨ (r.modulus.toNat : Int) ≤ r.reference.toInt)
      | 14 => r.quota.toNat = 0 ∨ 128 < r.quota.toNat
      | 15 => r.gateKind.toNat = 3 ∨ (r.gateKind.toNat ≠ 0 ∧ 4 ≤ r.gateTrigger.toNat)
      | _ => False
    (¬ ready → exec (.axisConfig (unitOfAxis n)) s = .next (s.complete .wrongState 0 0)) ∧
    (ready → ∀ k, fails k → (∀ i, i < k → ¬ fails i) →
      exec (.axisConfig (unitOfAxis n)) s = .next (s.complete .badArg (BitVec.ofNat 16 k) 0)) ∧
    (ready → (∀ k, ¬ fails k) → ∃ y, exec (.axisConfig (unitOfAxis n)) s =
        .next (State.complete .ok 0 0 { s with axes := s.axes.set n y }) ∧
      y = { x with config := y.config, position := y.position, revolution := y.revolution,
                   filterA := { x.filterA with run := 0 }, filterB := { x.filterB with run := 0 },
                   filterZ := { x.filterZ with run := 0 }, divider := { count := 0, due := false },
                   zChanged := false } ∧
      (let c := y.config
       r.decodeMode.toNat = (match c.decodeMode with
         | .quadX4 => 0 | .quadX2 => 1 | .quadX1 => 2 | .stepDir => 3 | .upDown => 4) ∧
       c.invert = r.invert ∧ r.range.toNat = (match c.range with | .linear => 0 | .rotary => 1) ∧
       c.modulus = r.modulus ∧ c.filterLength = r.filterLength ∧
       r.sampleClock.toNat = (match c.sampleClock with | .div1 => 0 | .div8 => 1 | .div64 => 2 | .div512 => 3) ∧
       c.recordWraps = r.recordWraps ∧ c.recordPhaseErrors = r.recordPhaseErrors ∧
       c.faultThreshold = r.faultThreshold ∧
       r.indexPolarity = (match c.indexPolarity with | .highGoing => false | .lowGoing => true) ∧
       r.gatePhase.toNat = (match c.gatePhase with | none => 0 | some p => 4 + 2 * p.a.toNat + p.b.toNat) ∧
       r.indexDirection.toNat = (match c.indexDirection with | .any => 0 | .forward => 1 | .reverse => 2) ∧
       c.recordIndex = r.recordIndex ∧ c.reference = r.reference ∧ c.quota = r.quota ∧
       (match c.gate with
         | .none => r.gateKind = 0
         | .onLevel i high => r.gateKind = (if high then 1 else 2) ∧ r.gateTrigger.toNat = i.val) ∧
       (let load := c.range ≠ x.config.range ∨ (c.range = .rotary ∧ c.modulus ≠ x.config.modulus)
        (load → y.position = 0 ∧ y.revolution = 0) ∧
        (¬ load → y.position = x.position ∧ y.revolution = x.revolution))))

/-- AXIS_RESET (R22, R75, R88): the axis at its reset values with its filtered values kept, its schedule emptied at once
with the slots at the tail of the free list, oldest first, and no record, output op or SCHED_DRY. A change of filtered Z, a
sample point and a deadline comparison that are not taken are dropped [19]. -/
def Obligations.AxisResetReturnsOneAxis : Prop :=
  ∀ (n : AxisNo) (s : State), s.Waits .axisReset (unitOfAxis n) →
    exec (.axisReset (unitOfAxis n)) s = .next (State.complete .ok 0 0 { s with
      axes := s.axes.set n { Axis.reset with
        filterA := { (s.axis n).filterA with run := 0 }, filterB := { (s.axis n).filterB with run := 0 },
        filterZ := { (s.axis n).filterZ with run := 0 } }
      schedules := s.schedules.set n { list := [], runMode := .run, draining := false, compareDue := false }
      pool := { s.pool with free := s.pool.free ++ (s.schedule n).list } })

/-- The axis state changes only at AXIS_START, AXIS_STOP, AXIS_RESUME and AXIS_RESET of the axis, at a phase error that
faults it, and at the resets of the part: a FAULTED axis stays so until AXIS_RESUME, AXIS_STOP or a reset (R13). The homing
state changes only at HOME_ARM, HOME_CANCEL, AXIS_RESET, the homing load and the resets of the part (R81). A command
that ends a tick with events untaken is those events and then the command (`Obligations.TickAdvancesTheTime`) [3]. -/
def Obligations.AxisAndHomingStatesChangeOnlyByTheirEvents : Prop :=
  (∀ (c : Instr) (n : AxisNo) (s t : State), s.TakesItsOwnEvent c → exec c s = .next t → (t.axis n).state ≠ (s.axis n).state →
    c = .pinReset ∨ (∃ u, c = .chipReset u) ∨
    (∃ u, axisOf u = n ∧ (
      (c = .axisStart u ∧ (s.axis n).state = .stopped ∧ (t.axis n).state = .counting) ∨
      (c = .axisResume u ∧ (s.axis n).state = .faulted ∧ (t.axis n).state = .counting) ∨
      (c = .axisStop u ∧ (t.axis n).state = .stopped) ∨ (c = .axisReset u ∧ (t.axis n).state = .stopped))) ∨
    ((∃ h, c = .decoderEvaluation { axis := n, between := h }) ∧ (s.axis n).state = .counting ∧
      (t.axis n).state = .faulted)) ∧
  ∀ (c : Instr) (n : AxisNo) (s t : State), s.TakesItsOwnEvent c → exec c s = .next t → (t.axis n).homing ≠ (s.axis n).homing →
    c = .pinReset ∨ (∃ u, c = .chipReset u) ∨
    ((∃ h, c = .indexEdge { axis := n, between := h }) ∧ (s.axis n).homing = .seeking ∧ (t.axis n).homing = .referenced ∧
      (t.axis n).position = (s.axis n).config.reference) ∨
    ∃ u, axisOf u = n ∧ ((c = .homeArm u ∧ (t.axis n).homing = .seeking) ∨
      (c = .homeCancel u ∧ (s.axis n).homing = .seeking ∧ (t.axis n).homing = .unreferenced) ∨
      (c = .axisReset u ∧ (t.axis n).homing = .unreferenced))

/-- A counting step is the one way the position changes that is an arrival; every other change is a load (R10): the
position changes at DECODER_EVALUATION, at the homing load, at AXIS_SETPOS, AXIS_RESET and AXIS_CONFIG of the axis, and at
the resets of the part, and a load leaves the schedules' fields, the pool records and the lines as they are but for what
the reset of a schedule empties. A command that ends a tick with events untaken is those events and then the command
(`Obligations.TickAdvancesTheTime`) [3]. -/
def Obligations.PositionChangesOnlyByAStepOrALoad : Prop :=
  ∀ (c : Instr) (n : AxisNo) (s t : State), s.TakesItsOwnEvent c → exec c s = .next t → (t.axis n).position ≠ (s.axis n).position →
    c = .pinReset ∨ (∃ u, c = .chipReset u) ∨
    ((∃ h, c = .decoderEvaluation { axis := n, between := h }) ∧ ∃ d, s.Steps n d) ∨
    (((∃ h, c = .indexEdge { axis := n, between := h }) ∧ (s.axis n).state = .counting ∧ (s.axis n).homing = .seeking) ∧
      t.schedules = s.schedules ∧ t.pool = s.pool ∧ t.lines = s.lines) ∨
    (∃ u, axisOf u = n ∧ (c = .axisSetpos u ∨ (c = .axisConfig u ∧ (s.axis n).state = .stopped)) ∧
      t.schedules = s.schedules ∧ t.pool = s.pool ∧ t.lines = s.lines) ∨
    ∃ u, axisOf u = n ∧ c = .axisReset u ∧ (t.schedule n).list = [] ∧ t.pool.entries = s.pool.entries ∧
      t.lines = s.lines

/-! ## Schedules and the pool -/

/-- SCHED_APPEND (R40): the four checks in their order, the second over the staged entries in ascending order with each
entry's checks in the order of R31; the batch that passes all four is accepted, and its steps begin at its first slot. -/
def Obligations.AppendIsJudgedInOrder : Prop :=
  ∀ (n : AxisNo) (s : State), s.Waits .schedAppend (unitOfAxis n) →
    let first := (s.engine.argCopy[0]).toNat
    let count := (s.engine.argCopy[1]).toNat
    let c := (s.axis n).config
    let length := (s.schedule n).list.length
    let fails : StagedEntry → Nat → Prop := fun e k => match k with
      | 1 => 3 ≤ e.qualifier.toNat
      | 2 => 5 ≤ e.op.toNat
      | 3 => e.op.toNat ≠ 0 ∧ 8 ≤ e.line.toNat
      | 4 => 3 ≤ e.record.toNat
      | 5 => e.count.toNat = 0
      | 6 => c.range = .rotary ∧ (e.target.toInt < 0 ∨ (c.modulus.toNat : Int) ≤ e.target.toInt)
      | 7 => e.count.toNat ≠ 1 ∧ (e.stride.toInt = 0 ∨ (c.range = .rotary ∧ c.modulus.toNat < e.stride.toInt.natAbs + 1))
      | _ => False
    let inBatch : Fin 8 → Prop := fun i => first ≤ i.val ∧ i.val < first + count
    let done := exec (.schedAppend (unitOfAxis n)) s
    (7 < first → done = .next (s.complete .badArg 0 0)) ∧
    (first ≤ 7 → (count = 0 ∨ 8 < count ∨ 8 < first + count) → done = .next (s.complete .badArg 1 0)) ∧
    (first ≤ 7 → 1 ≤ count → first + count ≤ 8 →
      (∀ (i : Fin 8) (k : Nat), inBatch i → fails s.engine.staged[i] k →
        (∀ i' k', inBatch i' → i' < i → ¬ fails s.engine.staged[i'] k') →
        (∀ k', k' < k → ¬ fails s.engine.staged[i] k') →
        done = .next (s.complete .badEntry (BitVec.ofNat 16 i.val) (BitVec.ofNat 16 k))) ∧
      ((∀ i k, inBatch i → ¬ fails s.engine.staged[i] k) →
        (c.quota.toNat < length + count → done = .next (s.complete .schedFull (BitVec.ofNat 16 length)
          (c.quota.setWidth 16))) ∧
        (length + count ≤ c.quota.toNat → s.pool.free.length < count →
          done = .next (s.complete .poolEmpty (BitVec.ofNat 16 s.pool.free.length) 0)) ∧
        (length + count ≤ c.quota.toNat → count ≤ s.pool.free.length →
          done = .next { s with engine := { s.engine with
            phase := .appending { next := first, left := count, first := none } } })))

/-- APPEND_STEP (R25, R41, R60): the slot at the head of the free list takes the next staged entry of the batch, with the
remaining count equal to the count, and joins the tail of the schedule; an entry that becomes head has its deadline
compared. Without a step due nothing happens [14]. -/
def Obligations.AppendStepMovesOneSlot : Prop :=
  ∀ (n : AxisNo) (s : State), s.inReset = false →
    (∀ (p : AppendProgress) (k : Slot) (rest : List Slot) (i : Fin 8), s.engine.unit = unitOfAxis n →
      s.engine.phase = .appending p → 1 ≤ p.left → i.val = p.next → s.pool.free = k :: rest →
      s.BatchValid →
      ∃ e, exec .appendStep s = .next { s with
        pool := { free := rest, entries := s.pool.entries.set k e }
        schedules := s.schedules.set n { s.schedule n with
          list := (s.schedule n).list ++ [k]
          compareDue := (s.schedule n).compareDue || (s.schedule n).list.isEmpty }
        engine := { s.engine with
          phase := .appending { next := p.next + 1, left := p.left - 1, first := some (p.first.getD k) } } } ∧
      (let g := s.engine.staged[i]
       e.target = g.target ∧ e.line = g.line ∧ e.tag = g.tag ∧ e.count = g.count ∧ e.stride = g.stride ∧
       e.deadlinePresent = g.deadlinePresent ∧ e.deadline = g.deadline ∧ e.remaining = g.count ∧
       (match e.qualifier with | .any => 0 | .forward => 1 | .reverse => 2) = g.qualifier.toNat ∧
       (match e.op with | .none => 0 | .pulse => 1 | .set => 2 | .clear => 3 | .toggle => 4) = g.op.toNat ∧
       (match e.record with | .none => 0 | .self => 1 | .gang => 2) = g.record.toNat)) ∧
    ((∀ p, s.engine.phase = .appending p → p.left = 0) → exec .appendStep s = .next s)

/-- APPEND_COMPLETION and FLUSH_COMPLETION (R43, R71): an append completes with the slot of its first step and the length
of the schedule; a flush ends DRAINING, offers FLUSHED and completes with the number of entries removed. Neither is taken
before the last step [14]. -/
def Obligations.SteppedCommandsCompleteAfterTheirLastStep : Prop :=
  ∀ (n : AxisNo) (s : State), s.inReset = false → s.engine.unit = unitOfAxis n →
    (∀ (p : AppendProgress) (k : Slot), s.engine.phase = .appending p → p.first = some k →
      (p.left = 0 → exec .appendCompletion s = .next (s.complete .ok (BitVec.ofNat 16 k.val)
        (BitVec.ofNat 16 (s.schedule n).list.length))) ∧
      (p.left ≠ 0 → exec .appendCompletion s = .next s)) ∧
    (∀ total : Nat, s.engine.phase = .flushing total →
      ((s.schedule n).list = [] → exec .flushCompletion s = .next (State.complete .ok (BitVec.ofNat 16 total) 0
        (State.offer (.schedule n) { cause := .flushed, axis := some n, stamp := s.now,
                                     value32 := some (BitVec.ofNat 32 total) }
          { s with schedules := s.schedules.set n { s.schedule n with draining := false } }))) ∧
      ((s.schedule n).list ≠ [] → exec .flushCompletion s = .next s))

/-- SCHED_HOLD, SCHED_RUN (R47) and SCHED_SKIP (R66). -/
def Obligations.HoldRunAndSkip : Prop :=
  ∀ (n : AxisNo) (s : State),
    let c := s.schedule n
    let mode : BitVec 16 := match c.runMode with | .run => 0 | .hold => 1
    let length := BitVec.ofNat 16 c.list.length
    (s.Waits .schedHold (unitOfAxis n) → exec (.schedHold (unitOfAxis n)) s = .next (State.complete .ok mode length
      { s with schedules := s.schedules.set n { c with runMode := .hold } })) ∧
    (s.Waits .schedRun (unitOfAxis n) → exec (.schedRun (unitOfAxis n)) s = .next (State.complete .ok mode length
      { s with schedules := s.schedules.set n { c with runMode := .run } })) ∧
    (s.Waits .schedSkip (unitOfAxis n) →
      (c.list = [] → exec (.schedSkip (unitOfAxis n)) s = .next (s.complete .wrongState 0 0)) ∧
      ∀ k rest, c.list = k :: rest → exec (.schedSkip (unitOfAxis n)) s =
        .next (State.complete .ok (BitVec.ofNat 16 k.val) (BitVec.ofNat 16 rest.length) { s with
          schedules := s.schedules.set n { c with list := rest, compareDue := c.compareDue || !rest.isEmpty }
          pool := { s.pool with free := s.pool.free ++ [k] }
          interrupts := if rest = [] then s.interrupts.raise (.schedDry n) else s.interrupts }))

/-- SCHED_FLUSH and FLUSH_STEP (R68, R70): a flush of an EMPTY schedule completes at once; of another, the DRAINING
condition begins with the number of entries to remove; each step returns the head to the tail of the free list, and the
next entry's deadline is not taken up. -/
def Obligations.FlushDrainsOldestFirst : Prop :=
  ∀ (n : AxisNo) (s : State),
    let c := s.schedule n
    (s.Waits .schedFlush (unitOfAxis n) →
      (c.list = [] → exec (.schedFlush (unitOfAxis n)) s = .next (s.complete .ok 0 0)) ∧
      (c.list ≠ [] → exec (.schedFlush (unitOfAxis n)) s = .next { s with
        schedules := s.schedules.set n { c with draining := true }
        engine := { s.engine with phase := .flushing c.list.length } })) ∧
    (s.inReset = false → s.engine.unit = unitOfAxis n → ∀ total, s.engine.phase = .flushing total →
      ∀ k rest, c.list = k :: rest → exec .flushStep s = .next { s with
        schedules := s.schedules.set n { c with list := rest }
        pool := { s.pool with free := s.pool.free ++ [k] } }) ∧
    (s.inReset = false → (∀ total, s.engine.phase ≠ .flushing total) → exec .flushStep s = .next s)

/-- DEADLINE_COMPARISON (R59, R60, R61): a head whose deadline is present and reached expires, in state ACTIVE or HELD and
with its axis not FAULTED: EXPIRED is offered, no output op is performed, and the slot returns; otherwise the comparison
alone is over. Without a comparison taken up nothing happens [9]. -/
def Obligations.DeadlineComparisonExpiresTheHead : Prop :=
  ∀ (n : AxisNo) (s : State), s.inReset = false →
    let c := s.schedule n
    let compared := s.schedules.set n { c with compareDue := false }
    let expires : Slot → Prop := fun k => (s.entry k).deadlinePresent = true ∧ c.draining = false ∧
      (s.axis n).state ≠ .faulted ∧ (s.entry k).deadline.toNat ≤ s.timebase.time.toNat
    (c.compareDue = false → exec (.deadlineComparison n) s = .next s) ∧
    (c.compareDue = true → (∀ k, c.list.head? = some k → ¬ expires k) →
      exec (.deadlineComparison n) s = .next { s with schedules := compared }) ∧
    ∀ k rest, c.compareDue = true → c.list = k :: rest → expires k →
      exec (.deadlineComparison n) s = .next
        (let t := s.offer (.schedule n) {
           cause := .expired, axis := some n, stamp := s.now, position := some (s.axis n).position,
           revolution := if (s.axis n).config.range = .rotary then some (s.axis n).revolution else none,
           entry := some { slot := k, tag := (s.entry k).tag, remaining := (s.entry k).remaining } }
         { t with
           schedules := s.schedules.set n { c with list := rest, compareDue := !rest.isEmpty }
           pool := { s.pool with free := s.pool.free ++ [k] }
           interrupts := if rest = [] then t.interrupts.raise (.schedDry n) else t.interrupts })

/-! ## Index and homing -/

/-- INDEX_EDGE (R77, R78, R80, R82, R83): a change of filtered Z to the active level on a COUNTING axis that passes the gate
phase and the direction test offers INDEX when record index is on, and while SEEKING loads the reference, offers HOMED with
the position before the load, and makes the axis REFERENCED; a change that does not qualify has no effect. The records carry
the time at the sample point (R1). Without a change nothing happens [3] [14]. A host action that the command carries is taken
between the two admissions (R149), and without them all the same [15]. -/
def Obligations.IndexEdgeQualifiesAndHomes : Prop :=
  ∀ (n : AxisNo) (h : Option HostAction) (s : State), s.inReset = false →
    let x := s.axis n
    let done := exec (.indexEdge { axis := n, between := h }) s
    let pair : LinePair := { a := x.filterA.level, b := x.filterB.level }
    let qualified := x.state = .counting ∧
      (x.filterZ.level = true ↔ x.config.indexPolarity = .highGoing) ∧
      (∀ p, x.config.gatePhase = some p → p = pair) ∧
      (x.config.indexDirection = .any ∨
        x.config.indexDirection = (match x.direction with | .forward => .forward | .reverse => .reverse))
    let revolution : Option (BitVec 16) := if x.config.range = .rotary then some x.revolution else none
    let taken := { s with axes := s.axes.set n { x with zChanged := false } }
    let indexed := State.perform h (if x.config.recordIndex then taken.offer (.indexUnit n) {
        cause := .index, axis := some n, stamp := x.sampledAt, position := some x.position, revolution := revolution,
        aux := some (BitVec.ofNat 16 (2 * pair.a.toNat + pair.b.toNat)) } else taken)
    (x.zChanged = false → done = .next (s.perform h)) ∧
    (x.zChanged = true → ¬ qualified → done = .next (taken.perform h)) ∧
    (x.zChanged = true → qualified → x.homing ≠ .seeking → done = .next indexed) ∧
    (x.zChanged = true → qualified → x.homing = .seeking → done = .next
      (State.offer (.indexUnit n) {
          cause := .homed, axis := some n, stamp := x.sampledAt, position := some x.config.reference,
          revolution := if x.config.range = .rotary then some 0 else none, value32 := some x.position }
        { indexed with axes := s.axes.set n { x with
            zChanged := false, position := x.config.reference, revolution := 0, homing := .referenced } }))

/-- HOME_ARM and HOME_CANCEL (R84, R85). -/
def Obligations.HomeArmAndCancel : Prop :=
  ∀ (n : AxisNo) (s : State),
    let x := s.axis n
    let before : BitVec 16 := match x.homing with | .unreferenced => 0 | .seeking => 1 | .referenced => 2
    (s.Waits .homeArm (unitOfAxis n) →
      (x.homing ≠ .seeking → exec (.homeArm (unitOfAxis n)) s = .next (State.complete .ok before 0
        { s with axes := s.axes.set n { x with homing := .seeking } })) ∧
      (x.homing = .seeking → exec (.homeArm (unitOfAxis n)) s = .next (s.complete .wrongState 1 0))) ∧
    (s.Waits .homeCancel (unitOfAxis n) →
      (x.homing = .seeking → exec (.homeCancel (unitOfAxis n)) s = .next (State.complete .ok 1 0
        { s with axes := s.axes.set n { x with homing := .unreferenced } })) ∧
      (x.homing ≠ .seeking → exec (.homeCancel (unitOfAxis n)) s = .next (s.complete .wrongState before 0)))

/-! ## Output lines -/

/-- A level request (R98), by OUT_SET, OUT_CLEAR and OUT_TOGGLE (R100): the static level is set, whatever is in progress
ends, it is never a collision, and the command reports the line state before. -/
def Obligations.LevelRequestsSetTheStaticLevel : Prop :=
  ∀ (l : LineNo) (s : State),
    let x := s.line l
    let before : BitVec 16 := match x.state with | .static => 0 | .pulsing => 1 | .deferred => 2 | .gap => 3
    let levelled (v : Bool) : Host.Outcome State Fault Refusal := .next (State.complete .ok before 0 { s with
      lines := s.lines.set l { x with state := .static, staticLevel := v, widthTimer := none, gapTimer := none } })
    (s.Waits .outSet (unitOfLine l) → exec (.outSet (unitOfLine l)) s = levelled true) ∧
    (s.Waits .outClear (unitOfLine l) → exec (.outClear (unitOfLine l)) s = levelled false) ∧
    (s.Waits .outToggle (unitOfLine l) → exec (.outToggle (unitOfLine l)) s = levelled (!x.staticLevel))

/-- A PULSE request, by OUT_PULSE (R92 to R96, R100): in STATIC it starts a pulse of the width in units of 100 ns; in the
other states it is counted as a collision, sets OUT_COLLIDE, and then restarts the pulse, defers, or is dropped, by the
policy and the state. -/
def Obligations.PulseRequestStartsOrCollides : Prop :=
  ∀ (l : LineNo) (s : State), s.Waits .outPulse (unitOfLine l) →
    let x := s.line l
    let full := some (10 * x.width.toNat)
    (x.state = .static → exec (.outPulse (unitOfLine l)) s = .next (State.complete .ok 0 0 { s with
      lines := s.lines.set l { x with state := .pulsing, widthTimer := full, gapTimer := none } })) ∧
    (x.state ≠ .static → ∃ y : Line, exec (.outPulse (unitOfLine l)) s = .next (State.complete .ok
        (match x.state with | .static => 0 | .pulsing => 1 | .deferred => 2 | .gap => 3) 1 { s with
          lines := s.lines.set l y, interrupts := s.interrupts.raise .outCollide }) ∧
      y.collisions.toNat = min (x.collisions.toNat + 1) 65535 ∧
      (x.state = .pulsing → x.policy = .restart → y = { x with collisions := y.collisions, widthTimer := full }) ∧
      (x.state = .pulsing → x.policy = .defer → y = { x with collisions := y.collisions, state := .deferred }) ∧
      ((x.policy = .discard ∨ x.state = .deferred ∨ x.state = .gap) → y = { x with collisions := y.collisions }))

/-- WIDTH_EXPIRY and GAP_EXPIRY (R92, R97): a timer that has counted its full length ends the pulse, begins the gap before a
deferred pulse, or starts that pulse. The expiry falls together with the tick that ends the count, before or after it, and it
does not outlast that tick (R121, `Obligations.TickMovesTheCountersOfClkin`) [2]. -/
def Obligations.TimersOfALineExpire : Prop :=
  ∀ (l : LineNo) (s : State), s.inReset = false → (s.line l).Sound →
    let x := s.line l
    (x.widthTimer = some 0 →
      (x.state = .pulsing → exec (.widthExpiry l) s = .next { s with
        lines := s.lines.set l { x with state := .static, widthTimer := none } }) ∧
      (x.state = .deferred → exec (.widthExpiry l) s = .next { s with
        lines := s.lines.set l { x with state := .gap, widthTimer := none, gapTimer := some (10 * x.gap.toNat) } })) ∧
    (x.gapTimer = some 0 → exec (.gapExpiry l) s = .next { s with
      lines := s.lines.set l { x with state := .pulsing, widthTimer := some (10 * x.width.toNat), gapTimer := none } })

/-- LINE_CONFIG_WRITE and WIDTH_WRITE (R101, R102, R193): the pulse level is stored as written, the policy unless its code
is 3, the gap and the width unless they are 0; running timers, the state and the static level are left alone, and the pin
follows at once (R90). -/
def Obligations.LineWritesStoreWhatEachFieldAllows : Prop :=
  ∀ (l : LineNo) (d : Halfword) (s : State), s.inReset = false →
    let x := s.line l
    (∃ y : Line, exec (.lineConfigWrite l d) s = .next { s with lines := s.lines.set l y } ∧
      y = { x with pulseLevel := d.getLsbD 0, policy := y.policy, gap := y.gap } ∧
      y.policy = (match (d.toNat / 2) % 4 with | 0 => .restart | 1 => .discard | 2 => .defer | _ => x.policy) ∧
      y.gap.toNat = (if (d.toNat / 8) % 256 = 0 then x.gap.toNat else (d.toNat / 8) % 256) ∧
      y.pin = (if x.state = .pulsing ∨ x.state = .deferred then d.getLsbD 0 else x.staticLevel)) ∧
    (d ≠ 0 → exec (.widthWrite l d) s = .next { s with lines := s.lines.set l { x with width := d } }) ∧
    (d = 0 → exec (.widthWrite l d) s = .next s)

/-- The counters that a host read returns and sets to 0 in one event (R105, R124, R142). -/
def Obligations.CountersAreReturnedAndClearedByTheirRead : Prop :=
  ∀ s : State, s.inReset = false →
    (∀ l : LineNo, exec (.collisionCounterRead l) s = .next { s with
      lines := s.lines.set l { s.line l with collisions := 0 }
      bus := { s.bus with dataOut := some (s.line l).collisions } }) ∧
    exec .addsCounterRead s = .next { s with
      timebase := { s.timebase with adds := 0 }, bus := { s.bus with dataOut := some s.timebase.adds } } ∧
    exec .skipsCounterRead s = .next { s with
      timebase := { s.timebase with skips := 0 }, bus := { s.bus with dataOut := some s.timebase.skips } } ∧
    exec .overwriteCountRead s = .next { s with
      journal := { s.journal with overwrites := 0 }, bus := { s.bus with dataOut := some s.journal.overwrites } }

/-! ## Triggers and gang captures -/

/-- TRIGGER_LEVEL_CHANGE (R108, R109, R110, R111, R113, R115): a change that is no edge under the edge select has no effect at the unit;
an edge in HOLDOFF is counted as suppressed, up to 255; an edge in READY offers TRIGGER when snap is on, with the gang
capture and the time at the sample point, then sends a PULSE to its line, clears the count, and starts a holdoff of 1 or
more. The event hands the new level on to the gates. Without a change nothing happens [3] [14]. -/
def Obligations.TriggerEdgeActsInReadyAndIsCountedInHoldoff : Prop :=
  ∀ (n : TriggerNo) (s : State), s.inReset = false →
    let x := s.trigger n
    let level := x.filter.level
    let edge := (x.edge = .rise ∧ level = true) ∨ (x.edge = .fall ∧ level = false) ∨ x.edge = .both
    let done := exec (.triggerLevelChange n) s
    (x.changed = false → done = .next s) ∧
    (x.changed = true → x.level = !level ∧ ∃ t, done = .next t ∧ (t.trigger n).level = level ∧
      ∀ high, t.gateOpen (.onLevel n high) = (level == high) ∧ s.gateOpen (.onLevel n high) = (level != high)) ∧
    (x.changed = true → ¬ edge → done = .next { s with triggers := s.triggers.set n { x with changed := false } }) ∧
    (x.changed = true → edge → x.state = .holdoff → ∃ v : BitVec 8, v.toNat = min (x.suppressed.toNat + 1) 255 ∧
      done = .next { s with triggers := s.triggers.set n { x with changed := false, suppressed := v } }) ∧
    (x.changed = true → edge → x.state = .ready →
      let r := if x.snap then s.offer (.trigger n) {
          cause := .trigger, stamp := x.sampledAt,
          gang := some { positions := s.axes.map fun y => if y.state = .stopped then none else some y.position },
          aux := some (BitVec.ofNat 16 (256 * n.val + x.suppressed.toNat)) } else s
      let q := if x.pulseEnable then r.request x.pulseLine .pulse else r
      let y := if x.holdoff = 0 then { x with changed := false, suppressed := 0 }
        else { x with changed := false, suppressed := 0, state := .holdoff, timer := some (10 * x.holdoff.toNat) }
      done = .next { q with triggers := s.triggers.set n y })

/-- HOLDOFF_EXPIRY, TRIGGER_CONFIG_WRITE and HOLDOFF_WRITE (R112, R114): a holdoff that has counted its length ends, before
or after the tick that ends the count (R121, `Obligations.TickMovesTheCountersOfClkin`) [2]; a
configuration write stores every field, clears the run count when it changes the filter length or the sample clock, and
restarts the divider when it changes the clock. -/
def Obligations.HoldoffEndsAndTriggerWritesAreStored : Prop :=
  ∀ (n : TriggerNo) (s : State), s.inReset = false →
    let x := s.trigger n
    (x.timer = some 0 → exec (.holdoffExpiry n) s = .next { s with
      triggers := s.triggers.set n { x with state := .ready, timer := none } }) ∧
    ∀ d : Halfword,
      exec (.holdoffWrite n d) s = .next { s with triggers := s.triggers.set n { x with holdoff := d } } ∧
      ∃ y : Trigger, exec (.triggerConfigWrite n d) s = .next { s with triggers := s.triggers.set n y } ∧
        y = { x with edge := y.edge, filterLength := y.filterLength, sampleClock := y.sampleClock, snap := d.getLsbD 8,
                     pulseEnable := d.getLsbD 9, pulseLine := y.pulseLine, filter := y.filter, divider := y.divider } ∧
        y.edge = (match d.toNat % 4 with | 0 => .off | 1 => .rise | 2 => .fall | _ => .both) ∧
        y.filterLength.toNat = (d.toNat / 4) % 16 ∧
        y.sampleClock = (match (d.toNat / 64) % 4 with | 0 => .div1 | 1 => .div8 | 2 => .div64 | _ => .div512) ∧
        y.pulseLine.val = (d.toNat / 1024) % 8 ∧
        y.filter = (if y.filterLength = x.filterLength ∧ y.sampleClock = x.sampleClock then x.filter
                    else { x.filter with run := 0 }) ∧
        y.divider = (if y.sampleClock = x.sampleClock then x.divider else { count := 0, due := false })

/-- SNAPSHOT (R116, R118): the gang capture of the axes that are not STOPPED is offered in a SNAPSHOT record, and the
command completes with the present mask and the number of axes present. -/
def Obligations.SnapshotOffersTheGangCapture : Prop :=
  ∀ (u : UnitNo) (s : State), s.Waits .snapshot u →
    let present (n : AxisNo) : Nat := if (s.axis n).state = .stopped then 0 else 1
    ∃ g : Gang, exec (.snapshot u) s = .next (State.complete .ok
        (BitVec.ofNat 16 (present 0 + 2 * present 1 + 4 * present 2 + 8 * present 3))
        (BitVec.ofNat 16 (present 0 + present 1 + present 2 + present 3))
        (s.offer .engine { cause := .snapshot, stamp := s.now, gang := some g })) ∧
      ∀ n : AxisNo, g.positions[n] = if (s.axis n).state = .stopped then none else some (s.axis n).position

/-! ## The timebase -/

/-- TIMEBASE_TICK and TRIM_ADJUSTED_TICK (R121, R122): a tick advances the time by 1 modulo 2^48, and the adjusted tick of a
trim interval by 2 under ADD and not at all under SKIP, where it counts; an advance takes up the deadline comparisons of
the four schedules. A TRIM_ADJUSTED_TICK is the same tick when it is the adjusted one, and otherwise nothing [2]. A tick that
finds events of sample points or expiries left over, and an event before its tick that finds them (R121), is those events, as
their own commands take them, and then the command: no such event outlasts its tick (R1, R77, R91, R108, R112, R155)
[2] [3]. -/
def Obligations.TickAdvancesTheTime : Prop :=
  (∀ s : State, s.inReset = false → (∀ l, (s.line l).Sound) →
    let sampled : List Instr :=
      [.decoderEvaluation { axis := 0 }, .indexEdge { axis := 0 }, .decoderEvaluation { axis := 1 },
       .indexEdge { axis := 1 }, .decoderEvaluation { axis := 2 }, .indexEdge { axis := 2 },
       .decoderEvaluation { axis := 3 }, .indexEdge { axis := 3 }, .triggerLevelChange 0, .triggerLevelChange 1,
       .triggerLevelChange 2, .triggerLevelChange 3, .syncEdge]
    let lines : List LineNo := [0, 1, 2, 3, 4, 5, 6, 7]
    let expiries : List Instr :=
      (([0, 1, 2, 3] : List TriggerNo).map Instr.holdoffExpiry ++ lines.map Instr.widthExpiry ++
        lines.map Instr.gapExpiry ++ [Instr.ageLatchSet]).filter fun c => s.reached c = some true
    let left := if s.counted then sampled else sampled ++ expiries
    ∃ u : State, Host.Core.run Sys2Proof.core left.length { s with pending := left } = .next u ∧ u.Settled ∧
      exec .timebaseTick s = exec .timebaseTick { u with pending := s.pending } ∧
      (s.timebase.TrimSound → s.timebase.AtAdjustedTick → exec .trimAdjustedTick s = exec .timebaseTick s) ∧
      (s.timebase.TrimSound → ¬ s.timebase.AtAdjustedTick → exec .trimAdjustedTick s = .next s) ∧
      ∀ c : Instr, s.reached c = some false → s.counted = false →
        (u.count.reached c = some true → exec c s = exec c { u with pending := s.pending }) ∧
        (u.count.reached c = some false → exec c s = .next s)) ∧
  ∀ s : State, s.inReset = false → s.timebase.TrimSound → s.Settled →
    let b := s.timebase
    ∃ t, exec .timebaseTick s = .next t ∧ t.counted = false ∧
      (¬ b.AtAdjustedTick → t.timebase.time.toNat = (b.time.toNat + 1) % 2 ^ 48 ∧
        t.timebase.intervalCount = (if b.trimMode = .off then 0 else b.intervalCount + 1) ∧
        t.timebase.adds = b.adds ∧ t.timebase.skips = b.skips ∧
        ∀ n, t.schedule n = { s.schedule n with compareDue := true }) ∧
      (b.AtAdjustedTick → t.timebase.intervalCount = 0 ∧
        (b.trimMode = .add → t.timebase.time.toNat = (b.time.toNat + 2) % 2 ^ 48 ∧
          t.timebase.adds.toNat = min (b.adds.toNat + 1) 65535 ∧ t.timebase.skips = b.skips ∧
          ∀ n, t.schedule n = { s.schedule n with compareDue := true }) ∧
        (b.trimMode = .skip → t.timebase.time = b.time ∧ t.timebase.skips.toNat = min (b.skips.toNat + 1) 65535 ∧
          t.timebase.adds = b.adds ∧ t.schedules = s.schedules)) ∧
      t.timebase = { b with time := t.timebase.time, intervalCount := t.timebase.intervalCount,
                            adds := t.timebase.adds, skips := t.timebase.skips, sampleDue := t.timebase.sampleDue } ∧
      t = { s with counted := false, timebase := t.timebase, schedules := t.schedules, axes := t.axes, lines := t.lines,
                   triggers := t.triggers, journal := t.journal }

/-- A tick of CLKIN moves every counter that is derived from CLKIN and nothing else of its block: the sample dividers of
the axes and the triggers (R2, R108), the sample point of SYNC (R127), the width, gap and holdoff timers (R91, R112), and the
age timer, which adds 1 every 1000 ticks and stops at 65535 (R154). The counters count a tick once: at the tick of the
timebase, or before it, at the first event that falls together with the tick and is taken before it (R121): a sample point, an
expiry, or the age timer's reach of the hold time. Such an event is then taken as it is after the tick, and with the time
from before it. Where its tick is not the coming one, nothing happens [2] [3] [14]. The tick of the timebase ends the moment
of the journal (R137) [7]. -/
def Obligations.TickMovesTheCountersOfClkin : Prop :=
  ∀ s : State, s.inReset = false → s.Settled →
    let ticked (interval : Nat) (d : Divider) : Divider :=
      if d.count + 1 < interval then { count := d.count + 1, due := false } else { count := 0, due := true }
    let interval (c : SampleClock) : Nat := match c with | .div1 => 1 | .div8 => 8 | .div64 => 64 | .div512 => 512
    (∃ age, s.count = { s with
        counted := true
        axes := s.axes.map fun x => { x with divider := ticked (interval x.config.sampleClock) x.divider }
        lines := s.lines.map fun x => { x with
          widthTimer := x.widthTimer.map (· - 1), gapTimer := x.gapTimer.map (· - 1) }
        triggers := s.triggers.map fun x => { x with
          divider := ticked (interval x.sampleClock) x.divider, timer := x.timer.map (· - 1) }
        timebase := { s.timebase with sampleDue := true }
        journal := { s.journal with age := age } } ∧
      (s.journal.age = none → age = none) ∧
      ∀ a, s.journal.age = some a → ∃ a', age = some a' ∧
        (a.ticks + 1 < 1000 → a' = { a with ticks := a.ticks + 1 }) ∧
        (1000 ≤ a.ticks + 1 → a'.ticks = 0 ∧ a'.count.toNat = min (a.count.toNat + 1) 65535)) ∧
    (s.counted = false → exec .timebaseTick s = exec .timebaseTick s.count ∧
      ∀ c : Instr, s.reached c = some false →
        (s.count.reached c = some true → exec c s = exec c s.count) ∧
        (s.count.reached c = some false → exec c s = .next s)) ∧
    (s.counted = true →
      (∃ t, exec .timebaseTick s = .next t ∧ t.axes = s.axes ∧ t.lines = s.lines ∧ t.triggers = s.triggers ∧
        t.timebase.sampleDue = s.timebase.sampleDue ∧
        t.journal = { s.journal with moment := {
          start := { ring := s.journal.ring, nextSeq := s.journal.nextSeq, mode := s.journal.mode,
                     view := s.journal.view }
          events := [] } }) ∧
      ∀ c : Instr, s.reached c = some false → exec c s = .next s)

/-- Rate trim over any number of whole intervals (R122): from an interval count of 0, m intervals of N ticks advance the
time by m (N + 1) under ADD, by m (N − 1) under SKIP, and any k ticks by k while the trim is OFF. The ticks are the
commands of the queue [1] [2], and no change of the filtered SYNC level, which could load the time, is untaken [3]. -/
def Obligations.TrimKeepsItsRateOverEveryInterval : Prop :=
  ∀ (s : State) (m : Nat), s.inReset = false → s.timebase.TrimSound → s.timebase.intervalCount = 0 →
    s.timebase.changed = false →
    let N := s.timebase.interval.toNat
    let ticks (k : Nat) : Host.Outcome State Fault Refusal :=
      Host.Core.run Sys2Proof.core k { s with pending := List.replicate k .timebaseTick }
    (s.timebase.trimMode = .add → ∃ t : State, ticks (m * N) = .next t ∧
      t.timebase.time.toNat = (s.timebase.time.toNat + m * (N + 1)) % 2 ^ 48 ∧ t.timebase.intervalCount = 0 ∧
      t.timebase.adds.toNat = min (s.timebase.adds.toNat + m) 65535) ∧
    (s.timebase.trimMode = .skip → ∃ t : State, ticks (m * N) = .next t ∧
      t.timebase.time.toNat = (s.timebase.time.toNat + m * (N - 1)) % 2 ^ 48 ∧ t.timebase.intervalCount = 0 ∧
      t.timebase.skips.toNat = min (s.timebase.skips.toNat + m) 65535) ∧
    (s.timebase.trimMode = .off → ∃ t : State, ticks m = .next t ∧
      t.timebase.time.toNat = (s.timebase.time.toNat + m) % 2 ^ 48)

/-- TRIM_MODE_WRITE and SYNC_CONFIG_WRITE (R123, R127). -/
def Obligations.TrimAndSyncWritesAreJudged : Prop :=
  ∀ (d : Halfword) (s : State), s.inReset = false →
    let b := s.timebase
    let valid := 16 ≤ b.stagedInterval.toNat ∧ b.stagedInterval.toNat ≤ 16777216
    let written (m : TrimMode) (i : BitVec 32) : Host.Outcome State Fault Refusal :=
      .next { s with timebase := { b with trimMode := m, interval := i, intervalCount := 0 } }
    (d.toNat % 4 = 0 → (valid → exec (.trimModeWrite d) s = written .off b.stagedInterval) ∧
      (¬ valid → exec (.trimModeWrite d) s = written .off b.interval)) ∧
    (d.toNat % 4 = 1 → valid → exec (.trimModeWrite d) s = written .add b.stagedInterval) ∧
    (d.toNat % 4 = 2 → valid → exec (.trimModeWrite d) s = written .skip b.stagedInterval) ∧
    ((d.toNat % 4 = 3 ∨ (d.toNat % 4 ≠ 0 ∧ ¬ valid)) → exec (.trimModeWrite d) s = .next s) ∧
    exec (.syncConfigWrite d) s = .next { s with timebase := { b with
      syncMode := if d.getLsbD 0 then .capture else .off, syncEdge := if d.getLsbD 1 then .fall else .rise } }

/-- TIME_SET, SYNC_ARM and SYNC_DISARM (R125, R130). -/
def Obligations.TimeSetAndSyncArming : Prop :=
  ∀ (u : UnitNo) (s : State),
    let b := s.timebase
    let v : Time := s.engine.argCopy[2] ++ s.engine.argCopy[1] ++ s.engine.argCopy[0]
    (s.Waits .timeSet u → exec (.timeSet u) s = .next (State.complete .ok 0 0
      (State.offer .timebase { cause := .timeset, stamp := v, value48 := some b.time } { s with
        timebase := { b with time := v }, schedules := s.schedules.map fun c => { c with compareDue := true } }))) ∧
    (s.Waits .syncArm u → exec (.syncArm u) s = .next (State.complete .ok
      (match b.syncState with | .free => 0 | .armed => 1) 0
      { s with timebase := { b with loadValue := v, syncState := .armed } })) ∧
    (s.Waits .syncDisarm u →
      (b.syncState = .armed → exec (.syncDisarm u) s = .next (State.complete .ok 1 0
        { s with timebase := { b with syncState := .free } })) ∧
      (b.syncState = .free → exec (.syncDisarm u) s = .next (s.complete .wrongState 0 0)))

/-- SYNC_EDGE (R127, R128, R129): a change of the filtered SYNC level that is no edge has no effect; an edge while FREE
offers a bare SYNC record under CAPTURE and nothing under OFF; an edge while ARMED loads the time, offers SYNC with the time
before the load, becomes FREE and sets SYNC_DONE. The time at the edge is the time as the event finds it, so a load taken
between the sample point and the edge is a load taken first (R126) [3]. Without a change nothing happens [14]. -/
def Obligations.SyncEdgeCapturesOrLoads : Prop :=
  ∀ s : State, s.inReset = false →
    let b := s.timebase
    let edge := b.filter.level = true ↔ b.syncEdge = .rise
    let taken := { s with timebase := { b with changed := false } }
    (b.changed = false → exec .syncEdge s = .next s) ∧
    (b.changed = true → (¬ edge ∨ (b.syncState = .free ∧ b.syncMode = .off)) → exec .syncEdge s = .next taken) ∧
    (b.changed = true → edge → b.syncState = .free → b.syncMode = .capture →
      exec .syncEdge s = .next (taken.offer .timebase { cause := .sync, stamp := b.time })) ∧
    (b.changed = true → edge → b.syncState = .armed → exec .syncEdge s = .next (State.raise .syncDone
      (State.offer .timebase { cause := .sync, stamp := b.loadValue, value48 := some b.time } { s with
        timebase := { b with changed := false, time := b.loadValue, syncState := .free }
        schedules := s.schedules.map fun c => { c with compareDue := true } })))

/-! ## The capture journal -/

/-- One offer (R135, R138, R139, R141, R152, R154): with room the record joins; a full STOP journal loses one record and
counts it; a full OVERWRITE journal removes the oldest, counts it, clears the opened mark and restarts the age timer. A loss
and an overwrite set JRNL_LOSS. An offer whose block has no place before that of an earlier offer of the moment joins as the
newest record; another one is put in its place among them (R137) [7]. -/
def Obligations.OfferIsAdmittedLostOrOverwrites : Prop :=
  ∀ (src : Source) (c : Content) (s : State), s.journal.RingSound →
    let j := s.journal
    let t := s.offer src c
    let j' := t.journal
    (j.ring.length < 64 → j'.ring.length = j.ring.length + 1 ∧ j'.nextSeq = j.nextSeq + 1 ∧
      j'.pendingLoss = j.pendingLoss ∧ j'.overwrites = j.overwrites ∧ j'.openedMark = j.openedMark ∧
      j'.age = (if j.ring = [] then some { count := 0, ticks := 0 } else j.age) ∧ t.interrupts = s.interrupts) ∧
    (j.ring.length = 64 → j.mode = .stop → j'.ring.length = 64 ∧ j'.nextSeq = j.nextSeq ∧
      j'.pendingLoss.toNat = min (j.pendingLoss.toNat + 1) 65535 ∧ j'.overwrites = j.overwrites ∧
      j'.openedMark = j.openedMark ∧ j'.age = j.age ∧ t.interrupts = s.interrupts.raise .jrnlLoss) ∧
    (j.ring.length = 64 → j.mode = .overwrite → j'.ring.length = 64 ∧ j'.nextSeq = j.nextSeq + 1 ∧
      j'.pendingLoss = j.pendingLoss ∧ j'.overwrites.toNat = min (j.overwrites.toNat + 1) 65535 ∧
      j'.openedMark = false ∧ j'.age = some { count := 0, ticks := 0 } ∧ j'.ageLatch = false ∧
      t.interrupts = s.interrupts.raise .jrnlLoss) ∧
    ((∀ p ∈ offersOf j.moment.events, p.source.place ≤ src.place) → j'.view = j.view ∧
      (j.ring.length < 64 → j'.ring = j.ring ++ [{ seq := j.nextSeq, content := c }]) ∧
      (j.ring.length = 64 → j.mode = .stop → j'.ring = j.ring) ∧
      (j.ring.length = 64 → j.mode = .overwrite → j'.ring = j.ring.tail ++ [{ seq := j.nextSeq, content := c }])) ∧
    j'.reader = j.reader ∧ j'.mode = j.mode ∧ j'.viewPointer = j.viewPointer ∧ j'.lastAccess = j.lastAccess ∧
    t = { s with journal := t.journal, interrupts := t.interrupts }

/-- The fixed order of one moment (R137): two records that different blocks offer in one moment are admitted alike,
whichever of the two events is taken first, and two of one block in the order in which it offers them. The same holds when a
reader action is taken between them (R149): it falls after the first admission, whichever offer that is [15]. The
re-arbitration of a moment is the model's way of keeping the rule [7]. -/
def Obligations.AdmissionOrderIsTheFixedOrder : Prop :=
  (∀ (a b : Offer) (j : Journal), a.source ≠ b.source →
    (j.offer a).offer b = (j.offer b).offer a ∧
    ∀ (act : Journal → Journal) (stamp : Time),
      (act = Journal.open ∨ act = Journal.release stamp ∨ act = Journal.discard stamp) →
      (act (j.offer a)).offer b = (act (j.offer b)).offer a) ∧
  (∀ (a b : Offer) (j : Journal), j.RingSound → j.moment.events = [] → j.ring.length + 2 ≤ 64 →
    (a.source.place ≤ b.source.place → ((j.offer a).offer b).ring = j.ring ++
      [{ seq := j.nextSeq, content := a.content }, { seq := j.nextSeq + 1, content := b.content }]) ∧
    (b.source.place < a.source.place → ((j.offer a).offer b).ring = j.ring ++
      [{ seq := j.nextSeq, content := b.content }, { seq := j.nextSeq + 1, content := a.content }])) ∧
  ∀ (n m : AxisNo) (i : TriggerNo),
    (Source.counter n).place < (Source.indexUnit n).place ∧ (Source.indexUnit n).place < (Source.schedule n).place ∧
    (n < m → (Source.schedule n).place < (Source.counter m).place) ∧
    (Source.schedule n).place < (Source.trigger i).place ∧
    (∀ i' : TriggerNo, i < i' → (Source.trigger i).place < (Source.trigger i').place) ∧
    (Source.trigger i).place < Source.timebase.place ∧ Source.timebase.place < Source.engine.place

/-- The reader (R140, R144, R145, R146, R147, R154). OPEN on a CLOSED reader encodes the oldest record into the view;
RELEASE removes the opened record when it is still in the ring, and DISCARD removes every record; a removal in STOP mode
with losses pending admits the LOSS record at once. The other cases report EMPTY, ALREADY_OPEN, STALE and NOT_OPEN. An
action joins what has been taken in the moment, and an event that carries a host action takes it as its own row does
[15]. -/
def Obligations.ReaderActionsFollowTheReaderState : Prop :=
  ∀ s : State, s.inReset = false →
    let j := s.journal
    let losing := j.mode = .stop ∧ j.pendingLoss ≠ 0
    let loss : Record := { seq := j.nextSeq, content :=
      { cause := .loss, stamp := s.now, value32 := some (j.pendingLoss.setWidth 32) } }
    let lost : Option Content := if losing then some loss.content else none
    let acted (e : JournalEvent) : Moment := { j.moment with events := j.moment.events ++ [e] }
    let started (ring : List Record) : Option AgeTimer := if ring = [] then none else some { count := 0, ticks := 0 }
    (∀ r rest, j.reader = .closed → j.ring = r :: rest → exec .readerOpen s = .next { s with journal := { j with
      view := r.encode, viewPointer := 0, openedMark := true, reader := .opened, lastAccess := .ok
      moment := acted .openOldest } }) ∧
    (j.reader = .closed → j.ring = [] →
      exec .readerOpen s = .next { s with journal := { j with lastAccess := .empty } }) ∧
    (j.reader = .opened → exec .readerOpen s = .next { s with journal := { j with lastAccess := .alreadyOpen } }) ∧
    (j.reader = .closed → exec .readerRelease s = .next { s with journal := { j with lastAccess := .notOpen } }) ∧
    (j.reader = .opened → j.openedMark = false →
      exec .readerRelease s = .next { s with journal := { j with reader := .closed, lastAccess := .stale } }) ∧
    (∀ r rest, j.reader = .opened → j.openedMark = true → j.ring = r :: rest →
      let ring := if losing then rest ++ [loss] else rest
      let next := if losing then j.nextSeq + 1 else j.nextSeq
      exec .readerRelease s = .next { s with journal := { j with
        ring := ring, nextSeq := next, openedMark := false, reader := .closed, lastAccess := .ok, ageLatch := false
        pendingLoss := if j.mode = .stop then 0 else j.pendingLoss, age := started ring, moment := acted (.release lost) } }) ∧
    (let ring := if losing then [loss] else []
     let next := if losing then j.nextSeq + 1 else j.nextSeq
     exec .readerDiscard s = .next { s with journal := { j with
      ring := ring, nextSeq := next, openedMark := false, reader := .closed, view := [], viewPointer := 0
      lastAccess := .ok, ageLatch := false, pendingLoss := if j.mode = .stop then 0 else j.pendingLoss
      age := started ring, moment := acted (.discard lost) } }) ∧
    s.perform none = s ∧ ∀ a : HostAction, exec (hostActionRow a) s = .next (s.perform (some a))

/-- JCFG_WRITE, JHOLD_WRITE and AGE_LATCH_SET (R153, R155, R156, R157). The latch is set when the running count has come to
the hold time, before or after the tick at which it does (R121, `Obligations.TickMovesTheCountersOfClkin`) [16]. An accepted
JCFG write joins what has been taken in the moment [15]. -/
def Obligations.JournalConfigurationAndAgeLatch : Prop :=
  ∀ (d : Halfword) (s : State), s.inReset = false →
    let j := s.journal
    let threshold := d.toNat % 128
    let mode : JournalMode := if d.getLsbD 8 then .overwrite else .stop
    let refused := threshold < 1 ∨ 64 < threshold ∨ (mode ≠ j.mode ∧ j.ring ≠ [])
    let reached (hold : BitVec 16) := hold ≠ 0 ∧ ∃ a, j.age = some a ∧ hold.toNat ≤ a.count.toNat
    (refused → exec (.jcfgWrite d) s = .next { s with journal := { j with lastAccess := .cfgRefused } }) ∧
    (¬ refused → exec (.jcfgWrite d) s = .next { s with journal := { j with
      mode := mode, threshold := d.extractLsb' 0 7, lastAccess := .ok
      moment := { j.moment with events := j.moment.events ++ [.setMode mode] } } }) ∧
    (∃ t, exec (.jholdWrite d) s = .next t ∧
      t = { s with journal := { j with holdTime := d, ageLatch := t.journal.ageLatch } } ∧
      (t.journal.ageLatch = true ↔ j.ageLatch = true ∨ reached d) ∧
      (t.journalReady = true ↔ j.threshold.toNat ≤ j.ring.length ∨ (d ≠ 0 ∧ t.journal.ageLatch = true))) ∧
    (reached j.holdTime → exec .ageLatchSet s = .next { s with journal := { j with ageLatch := true } })

/-- VIEW_DATA_READ and VIEW_POINTER_WRITE (R150, R151). -/
def Obligations.ViewIsReadThroughItsPointer : Prop :=
  ∀ s : State, s.inReset = false →
    let j := s.journal
    (j.viewPointer ≤ 32 → ∃ v, exec .viewDataRead s = .next { s with
        journal := { j with viewPointer := if j.viewPointer = 32 then 32 else j.viewPointer + 1 }
        bus := { s.bus with dataOut := some v } } ∧
      (∀ h : j.viewPointer < j.view.length, v = j.view[j.viewPointer]) ∧
      (j.view.length ≤ j.viewPointer → v = 0)) ∧
    ∀ d : Halfword,
      (d.toNat % 64 ≤ 32 → exec (.viewPointerWrite d) s = .next { s with
        journal := { j with viewPointer := d.toNat % 64 } }) ∧
      (32 < d.toNat % 64 → exec (.viewPointerWrite d) s = .next s)

/-- The encoding of a record (R194): the header with the cause code, the axis and the presence bits, the sequence number, the
timestamp lowest halfword first, and then the groups that are present, in the order of their presence bits: position,
revolution, gang with its mask and the present positions in axis order, entry with slot, tag and remaining count, aux,
value32 and value48. The view length of each cause is that of the table, at most 19 halfwords. -/
def Obligations.RecordEncodingHasItsHeaderAndLength : Prop :=
  ∀ r : Record, r.content.Shaped →
    let c := r.content
    let bit (b : Bool) (i : Nat) : Nat := if b then 2 ^ i else 0
    let code : Nat := match c.cause with
      | .index => 1 | .homed => 2 | .compare => 3 | .expired => 4 | .flushed => 5 | .phaseErr => 6 | .fault => 7
      | .wrap => 8 | .trigger => 9 | .snapshot => 10 | .sync => 11 | .timeset => 12 | .loss => 13
    let header : Nat := code + (c.axis.elim 0 (fun n => 16 * n.val)) + bit c.axis.isSome 6 +
      bit c.position.isSome 7 + bit c.revolution.isSome 8 + bit c.gang.isSome 9 + bit c.entry.isSome 10 +
      bit c.aux.isSome 11 + bit c.value32.isSome 12 + bit c.value48.isSome 13
    let two (x : BitVec 32) : List Halfword := [x.extractLsb' 0 16, x.extractLsb' 16 16]
    let three (x : Time) : List Halfword := [x.extractLsb' 0 16, x.extractLsb' 16 16, x.extractLsb' 32 16]
    let group {α : Type} (f : α → List Halfword) (x : Option α) : List Halfword := x.elim [] f
    let gang (g : Gang) : List Halfword :=
      [BitVec.ofNat 16 (bit g.positions[0].isSome 0 + bit g.positions[1].isSome 1 + bit g.positions[2].isSome 2 +
        bit g.positions[3].isSome 3)] ++ group two g.positions[0] ++ group two g.positions[1] ++
        group two g.positions[2] ++ group two g.positions[3]
    let entry (e : EntryGroup) : List Halfword := [BitVec.ofNat 16 (e.slot.val + 256 * e.tag.toNat), e.remaining]
    let present (g : Option Gang) : Nat := (g.map (fun g => (g.positions.toList.filter Option.isSome).length)).getD 0
    let turn : Nat := if c.revolution.isSome then 1 else 0
    r.encode = [BitVec.ofNat 16 header, r.seq] ++ three c.stamp ++ group two c.position ++
      group (fun x => [x]) c.revolution ++ group gang c.gang ++ group entry c.entry ++ group (fun x => [x]) c.aux ++
      group two c.value32 ++ group three c.value48 ∧
    header < 2 ^ 16 ∧
    r.encode.length = (match c.cause with
      | .index => 8 + turn
      | .homed => 9 + turn
      | .expired => 9 + turn
      | .phaseErr => 9 + turn
      | .fault => 9 + turn
      | .compare => if c.gang.isSome then 10 + 2 * present c.gang + turn else 9 + turn
      | .wrap => 8
      | .flushed => 7
      | .trigger => 7 + 2 * present c.gang
      | .snapshot => 6 + 2 * present c.gang
      | .sync => if c.value48.isSome then 8 else 5
      | .timeset => 8
      | .loss => 7) ∧
    r.encode.length ≤ 19

/-! ## Interrupt flags -/

/-- FLAGS_WRITE, ENABLE_WRITE and IRQn (R176, R178, R179): a write of FLAGS clears the sticky flags at its 1 positions and
no other; a write of ENABLE stores the fifteen enables; neither touches the rest of the part; and IRQn is low just when
some flag and its enable are both 1, JRNL_READY among them (R175). -/
def Obligations.FlagsAndEnablesMakeTheInterrupt : Prop :=
  ∀ (d : Halfword) (s : State), s.inReset = false → s.interrupts.Sound →
    (∃ t, exec (.flagsWrite d) s = .next t ∧ t = { s with interrupts := t.interrupts } ∧
      t.interrupts.enables = s.interrupts.enables ∧
      (∀ f : Flag, t.interrupts.isSet f = (s.interrupts.isSet f && !d.getLsbD f.number)) ∧
      t.journalReady = s.journalReady) ∧
    (∃ t, exec (.enableWrite d) s = .next t ∧
      t = { s with interrupts := { s.interrupts with enables := t.interrupts.enables } } ∧ ∀ i, i < 15 → t.interrupts.enables.getLsbD i = d.getLsbD i) ∧
    (s.irqnLow = true ↔ (∃ f : Flag, s.interrupts.isSet f = true ∧ s.interrupts.enables.getLsbD f.number = true) ∨
      (s.journalReady = true ∧ s.interrupts.enables.getLsbD 3 = true))

/-- The enables change only by ENABLE_WRITE and the resets of the part (R178), and a sticky flag that is set is cleared only
by FLAGS_WRITE with its position 1 and by those resets (R174, R176). -/
def Obligations.FlagsAndEnablesAreKeptByEverythingElse : Prop :=
  ∀ (c : Instr) (s t : State), c.wellFormed = true → exec c s = .next t → c ≠ .pinReset → (∀ u, c ≠ .chipReset u) →
    (t.interrupts.enables ≠ s.interrupts.enables → ∃ d, c = .enableWrite d) ∧
    ∀ f : Flag, s.interrupts.isSet f = true → t.interrupts.isSet f = false →
      ∃ d, c = .flagsWrite d ∧ d.getLsbD f.number = true

/-! ## The register window -/

/-- POSITION_LOW_READ and TIME_LOW_READ (R186, R187): the low halfword is returned and the whole value captured in one
event, and the higher locations then present that capture. -/
def Obligations.LowReadsCaptureTheWholeValue : Prop :=
  ∀ s : State, s.inReset = false →
    (∀ n : AxisNo, ∃ t, exec (.positionLowRead n) s = .next t ∧
      t = { s with bus := { s.bus with
        positionShadows := s.bus.positionShadows.set n
          { position := (s.axis n).position, revolution := (s.axis n).revolution }
        dataOut := t.bus.dataOut } } ∧
      t.bus.dataOut = some ((s.axis n).position.extractLsb' 0 16) ∧
      Window.present (.axisWindow n 1) t = (s.axis n).position.extractLsb' 16 16 ∧
      Window.present (.axisWindow n 2) t = (s.axis n).revolution) ∧
    ∃ t, exec .timeLowRead s = .next t ∧
      t = { s with bus := { s.bus with timeShadow := s.timebase.time, dataOut := t.bus.dataOut } } ∧
      t.bus.dataOut = some (s.timebase.time.extractLsb' 0 16) ∧
      Window.present (.time 1) t = s.timebase.time.extractLsb' 16 16 ∧
      Window.present (.time 2) t = s.timebase.time.extractLsb' 32 16

/-- REGISTER_WRITE (R123, R162, R185): ARG0 to ARG3 and the halves of the staged trim interval store the halfword as
written; a write to a location that is read only or has a read side-effect, to an address without a location, and of no
reader action to JCTRL is ignored. -/
def Obligations.RegisterWriteStoresOrIsIgnored : Prop :=
  ∀ (d : Halfword) (s : State), s.inReset = false →
    (∀ k : Fin 4, exec (.registerWrite (BitVec.ofNat 7 (8 + k.val)) d) s =
      .next { s with engine := { s.engine with args := s.engine.args.set k d } }) ∧
    exec (.registerWrite 0x65 d) s = .next { s with timebase := { s.timebase with
      stagedInterval := s.timebase.stagedInterval.extractLsb' 16 16 ++ d } } ∧
    exec (.registerWrite 0x66 d) s = .next { s with timebase := { s.timebase with
      stagedInterval := d ++ s.timebase.stagedInterval.extractLsb' 0 16 } } ∧
    ∀ a : Address, (Instr.registerWrite a d).wellFormed = true →
      (∀ k : Fin 4, a ≠ BitVec.ofNat 7 (8 + k.val)) → a ≠ 0x65 → a ≠ 0x66 →
      exec (.registerWrite a d) s = .next s

/-- A host access is one event, whatever row carries it (R183, R185, R189): the row of a write access does what the write
does to the window, the row of a read access what the read does, and a read without a row drives the presented value and
changes nothing else. -/
def Obligations.HostAccessesAreTheirRows : Prop :=
  ∀ (a : Address) (s : State), s.inReset = false →
    (∀ (d : Halfword) (c : Instr), (Access.write a d).command = some c →
      c.wellFormed = true ∧ exec c s = .next (Window.writeAt a d s)) ∧
    (∀ c : Instr, (Access.read a).command = some c → exec c s = .next (Window.readAt a s)) ∧
    ((Access.read a).command = none → ∃ v, Window.readAt a s = { s with bus := { s.bus with dataOut := some v } } ∧
      (∀ l, locationAt a = some l → v = Window.present l s) ∧ (locationAt a = none → v = 0))

/-! ## Invariants that every step keeps -/

/-- At reset every invariant below holds. -/
def Obligations.ResetMeetsEveryInvariant : Prop :=
  State.reset.PoolSound ∧ State.reset.QuotasKept ∧ State.reset.EntriesValid ∧ State.reset.UnitsSound ∧
  State.reset.journal.Sound

/-- R35, R40: every slot stays in exactly one place, the free list or one schedule, and an append in progress finds the
slots it needs. R39: no schedule's length exceeds its quota. -/
def Obligations.StepsKeepEverySlotInOnePlace : Prop :=
  (∀ s t : State, s.PoolSound → step s = .next t → t.PoolSound) ∧
  ∀ s t : State, s.QuotasKept → step s = .next t → t.QuotasKept

/-- R29, R31, R57: every scheduled entry stays valid for its axis, with a target in range after every advance. -/
def Obligations.StepsKeepEveryEntryValid : Prop :=
  ∀ s t : State, s.EntriesValid → step s = .next t → t.EntriesValid

/-- R8, R9, R12, R45, R90, R101, R102, R110, R122, R123, R175: the units keep the conditions of their chapters. -/
def Obligations.StepsKeepEveryUnitSound : Prop :=
  ∀ s t : State, s.UnitsSound → step s = .next t → t.UnitsSound

/-- R134, R135, R138, R139, R144, R152, R154: the journal keeps its conditions: at most 64 records with consecutive numbers,
losses pending only in a full STOP journal, the opened record the oldest and its encoding in the view, and each record with
the groups of its cause. -/
def Obligations.StepsKeepTheJournalSound : Prop :=
  ∀ s t : State, s.journal.Sound → step s = .next t → t.journal.Sound
end

