-- ==== Sys2Proof/Laws/State.lean ====
section
/-! SUPPORT. What each update of the state leaves in each field: one lemma per field and update, true by `rfl`, so that no
later proof unfolds a record update. -/
namespace Sys2Proof.Machine

/-- The update of every unit is the map of their vector. -/
@[simp] theorem eachUnit_eq_map {α β : Type} {n : Nat} (f : α → β) (v : Vector α n) : eachUnit f v = v.map f := by
  ext i hi; simp [eachUnit]

variable (s : State)

/-! ## setAxis -/

@[simp] theorem State.setAxis_inReset (n : AxisNo) (x : Axis) : (s.setAxis n x).inReset = s.inReset := rfl
@[simp] theorem State.setAxis_counted (n : AxisNo) (x : Axis) : (s.setAxis n x).counted = s.counted := rfl
@[simp] theorem State.setAxis_axes (n : AxisNo) (x : Axis) : (s.setAxis n x).axes = s.axes.set n x := rfl
@[simp] theorem State.setAxis_schedules (n : AxisNo) (x : Axis) : (s.setAxis n x).schedules = s.schedules := rfl
@[simp] theorem State.setAxis_pool (n : AxisNo) (x : Axis) : (s.setAxis n x).pool = s.pool := rfl
@[simp] theorem State.setAxis_lines (n : AxisNo) (x : Axis) : (s.setAxis n x).lines = s.lines := rfl
@[simp] theorem State.setAxis_triggers (n : AxisNo) (x : Axis) : (s.setAxis n x).triggers = s.triggers := rfl
@[simp] theorem State.setAxis_timebase (n : AxisNo) (x : Axis) : (s.setAxis n x).timebase = s.timebase := rfl
@[simp] theorem State.setAxis_journal (n : AxisNo) (x : Axis) : (s.setAxis n x).journal = s.journal := rfl
@[simp] theorem State.setAxis_engine (n : AxisNo) (x : Axis) : (s.setAxis n x).engine = s.engine := rfl
@[simp] theorem State.setAxis_interrupts (n : AxisNo) (x : Axis) : (s.setAxis n x).interrupts = s.interrupts := rfl
@[simp] theorem State.setAxis_bus (n : AxisNo) (x : Axis) : (s.setAxis n x).bus = s.bus := rfl
@[simp] theorem State.setAxis_pending (n : AxisNo) (x : Axis) : (s.setAxis n x).pending = s.pending := rfl

/-! ## setSchedule -/

@[simp] theorem State.setSchedule_inReset (n : AxisNo) (x : Schedule) : (s.setSchedule n x).inReset = s.inReset := rfl
@[simp] theorem State.setSchedule_counted (n : AxisNo) (x : Schedule) : (s.setSchedule n x).counted = s.counted := rfl
@[simp] theorem State.setSchedule_axes (n : AxisNo) (x : Schedule) : (s.setSchedule n x).axes = s.axes := rfl
@[simp] theorem State.setSchedule_schedules (n : AxisNo) (x : Schedule) : (s.setSchedule n x).schedules = s.schedules.set n x := rfl
@[simp] theorem State.setSchedule_pool (n : AxisNo) (x : Schedule) : (s.setSchedule n x).pool = s.pool := rfl
@[simp] theorem State.setSchedule_lines (n : AxisNo) (x : Schedule) : (s.setSchedule n x).lines = s.lines := rfl
@[simp] theorem State.setSchedule_triggers (n : AxisNo) (x : Schedule) : (s.setSchedule n x).triggers = s.triggers := rfl
@[simp] theorem State.setSchedule_timebase (n : AxisNo) (x : Schedule) : (s.setSchedule n x).timebase = s.timebase := rfl
@[simp] theorem State.setSchedule_journal (n : AxisNo) (x : Schedule) : (s.setSchedule n x).journal = s.journal := rfl
@[simp] theorem State.setSchedule_engine (n : AxisNo) (x : Schedule) : (s.setSchedule n x).engine = s.engine := rfl
@[simp] theorem State.setSchedule_interrupts (n : AxisNo) (x : Schedule) : (s.setSchedule n x).interrupts = s.interrupts := rfl
@[simp] theorem State.setSchedule_bus (n : AxisNo) (x : Schedule) : (s.setSchedule n x).bus = s.bus := rfl
@[simp] theorem State.setSchedule_pending (n : AxisNo) (x : Schedule) : (s.setSchedule n x).pending = s.pending := rfl

/-! ## setLine -/

@[simp] theorem State.setLine_inReset (l : LineNo) (x : Line) : (s.setLine l x).inReset = s.inReset := rfl
@[simp] theorem State.setLine_counted (l : LineNo) (x : Line) : (s.setLine l x).counted = s.counted := rfl
@[simp] theorem State.setLine_axes (l : LineNo) (x : Line) : (s.setLine l x).axes = s.axes := rfl
@[simp] theorem State.setLine_schedules (l : LineNo) (x : Line) : (s.setLine l x).schedules = s.schedules := rfl
@[simp] theorem State.setLine_pool (l : LineNo) (x : Line) : (s.setLine l x).pool = s.pool := rfl
@[simp] theorem State.setLine_lines (l : LineNo) (x : Line) : (s.setLine l x).lines = s.lines.set l x := rfl
@[simp] theorem State.setLine_triggers (l : LineNo) (x : Line) : (s.setLine l x).triggers = s.triggers := rfl
@[simp] theorem State.setLine_timebase (l : LineNo) (x : Line) : (s.setLine l x).timebase = s.timebase := rfl
@[simp] theorem State.setLine_journal (l : LineNo) (x : Line) : (s.setLine l x).journal = s.journal := rfl
@[simp] theorem State.setLine_engine (l : LineNo) (x : Line) : (s.setLine l x).engine = s.engine := rfl
@[simp] theorem State.setLine_interrupts (l : LineNo) (x : Line) : (s.setLine l x).interrupts = s.interrupts := rfl
@[simp] theorem State.setLine_bus (l : LineNo) (x : Line) : (s.setLine l x).bus = s.bus := rfl
@[simp] theorem State.setLine_pending (l : LineNo) (x : Line) : (s.setLine l x).pending = s.pending := rfl

/-! ## setTrigger -/

@[simp] theorem State.setTrigger_inReset (n : TriggerNo) (x : Trigger) : (s.setTrigger n x).inReset = s.inReset := rfl
@[simp] theorem State.setTrigger_counted (n : TriggerNo) (x : Trigger) : (s.setTrigger n x).counted = s.counted := rfl
@[simp] theorem State.setTrigger_axes (n : TriggerNo) (x : Trigger) : (s.setTrigger n x).axes = s.axes := rfl
@[simp] theorem State.setTrigger_schedules (n : TriggerNo) (x : Trigger) : (s.setTrigger n x).schedules = s.schedules := rfl
@[simp] theorem State.setTrigger_pool (n : TriggerNo) (x : Trigger) : (s.setTrigger n x).pool = s.pool := rfl
@[simp] theorem State.setTrigger_lines (n : TriggerNo) (x : Trigger) : (s.setTrigger n x).lines = s.lines := rfl
@[simp] theorem State.setTrigger_triggers (n : TriggerNo) (x : Trigger) : (s.setTrigger n x).triggers = s.triggers.set n x := rfl
@[simp] theorem State.setTrigger_timebase (n : TriggerNo) (x : Trigger) : (s.setTrigger n x).timebase = s.timebase := rfl
@[simp] theorem State.setTrigger_journal (n : TriggerNo) (x : Trigger) : (s.setTrigger n x).journal = s.journal := rfl
@[simp] theorem State.setTrigger_engine (n : TriggerNo) (x : Trigger) : (s.setTrigger n x).engine = s.engine := rfl
@[simp] theorem State.setTrigger_interrupts (n : TriggerNo) (x : Trigger) : (s.setTrigger n x).interrupts = s.interrupts := rfl
@[simp] theorem State.setTrigger_bus (n : TriggerNo) (x : Trigger) : (s.setTrigger n x).bus = s.bus := rfl
@[simp] theorem State.setTrigger_pending (n : TriggerNo) (x : Trigger) : (s.setTrigger n x).pending = s.pending := rfl

/-! ## setTimebase -/

@[simp] theorem State.setTimebase_inReset (x : Timebase) : (s.setTimebase x).inReset = s.inReset := rfl
@[simp] theorem State.setTimebase_counted (x : Timebase) : (s.setTimebase x).counted = s.counted := rfl
@[simp] theorem State.setTimebase_axes (x : Timebase) : (s.setTimebase x).axes = s.axes := rfl
@[simp] theorem State.setTimebase_schedules (x : Timebase) : (s.setTimebase x).schedules = s.schedules := rfl
@[simp] theorem State.setTimebase_pool (x : Timebase) : (s.setTimebase x).pool = s.pool := rfl
@[simp] theorem State.setTimebase_lines (x : Timebase) : (s.setTimebase x).lines = s.lines := rfl
@[simp] theorem State.setTimebase_triggers (x : Timebase) : (s.setTimebase x).triggers = s.triggers := rfl
@[simp] theorem State.setTimebase_timebase (x : Timebase) : (s.setTimebase x).timebase = x := rfl
@[simp] theorem State.setTimebase_journal (x : Timebase) : (s.setTimebase x).journal = s.journal := rfl
@[simp] theorem State.setTimebase_engine (x : Timebase) : (s.setTimebase x).engine = s.engine := rfl
@[simp] theorem State.setTimebase_interrupts (x : Timebase) : (s.setTimebase x).interrupts = s.interrupts := rfl
@[simp] theorem State.setTimebase_bus (x : Timebase) : (s.setTimebase x).bus = s.bus := rfl
@[simp] theorem State.setTimebase_pending (x : Timebase) : (s.setTimebase x).pending = s.pending := rfl

/-! ## setJournal -/

@[simp] theorem State.setJournal_inReset (x : Journal) : (s.setJournal x).inReset = s.inReset := rfl
@[simp] theorem State.setJournal_counted (x : Journal) : (s.setJournal x).counted = s.counted := rfl
@[simp] theorem State.setJournal_axes (x : Journal) : (s.setJournal x).axes = s.axes := rfl
@[simp] theorem State.setJournal_schedules (x : Journal) : (s.setJournal x).schedules = s.schedules := rfl
@[simp] theorem State.setJournal_pool (x : Journal) : (s.setJournal x).pool = s.pool := rfl
@[simp] theorem State.setJournal_lines (x : Journal) : (s.setJournal x).lines = s.lines := rfl
@[simp] theorem State.setJournal_triggers (x : Journal) : (s.setJournal x).triggers = s.triggers := rfl
@[simp] theorem State.setJournal_timebase (x : Journal) : (s.setJournal x).timebase = s.timebase := rfl
@[simp] theorem State.setJournal_journal (x : Journal) : (s.setJournal x).journal = x := rfl
@[simp] theorem State.setJournal_engine (x : Journal) : (s.setJournal x).engine = s.engine := rfl
@[simp] theorem State.setJournal_interrupts (x : Journal) : (s.setJournal x).interrupts = s.interrupts := rfl
@[simp] theorem State.setJournal_bus (x : Journal) : (s.setJournal x).bus = s.bus := rfl
@[simp] theorem State.setJournal_pending (x : Journal) : (s.setJournal x).pending = s.pending := rfl

/-! ## setEngine -/

@[simp] theorem State.setEngine_inReset (x : Engine) : (s.setEngine x).inReset = s.inReset := rfl
@[simp] theorem State.setEngine_counted (x : Engine) : (s.setEngine x).counted = s.counted := rfl
@[simp] theorem State.setEngine_axes (x : Engine) : (s.setEngine x).axes = s.axes := rfl
@[simp] theorem State.setEngine_schedules (x : Engine) : (s.setEngine x).schedules = s.schedules := rfl
@[simp] theorem State.setEngine_pool (x : Engine) : (s.setEngine x).pool = s.pool := rfl
@[simp] theorem State.setEngine_lines (x : Engine) : (s.setEngine x).lines = s.lines := rfl
@[simp] theorem State.setEngine_triggers (x : Engine) : (s.setEngine x).triggers = s.triggers := rfl
@[simp] theorem State.setEngine_timebase (x : Engine) : (s.setEngine x).timebase = s.timebase := rfl
@[simp] theorem State.setEngine_journal (x : Engine) : (s.setEngine x).journal = s.journal := rfl
@[simp] theorem State.setEngine_engine (x : Engine) : (s.setEngine x).engine = x := rfl
@[simp] theorem State.setEngine_interrupts (x : Engine) : (s.setEngine x).interrupts = s.interrupts := rfl
@[simp] theorem State.setEngine_bus (x : Engine) : (s.setEngine x).bus = s.bus := rfl
@[simp] theorem State.setEngine_pending (x : Engine) : (s.setEngine x).pending = s.pending := rfl

/-! ## setInterrupts -/

@[simp] theorem State.setInterrupts_inReset (x : Interrupts) : (s.setInterrupts x).inReset = s.inReset := rfl
@[simp] theorem State.setInterrupts_counted (x : Interrupts) : (s.setInterrupts x).counted = s.counted := rfl
@[simp] theorem State.setInterrupts_axes (x : Interrupts) : (s.setInterrupts x).axes = s.axes := rfl
@[simp] theorem State.setInterrupts_schedules (x : Interrupts) : (s.setInterrupts x).schedules = s.schedules := rfl
@[simp] theorem State.setInterrupts_pool (x : Interrupts) : (s.setInterrupts x).pool = s.pool := rfl
@[simp] theorem State.setInterrupts_lines (x : Interrupts) : (s.setInterrupts x).lines = s.lines := rfl
@[simp] theorem State.setInterrupts_triggers (x : Interrupts) : (s.setInterrupts x).triggers = s.triggers := rfl
@[simp] theorem State.setInterrupts_timebase (x : Interrupts) : (s.setInterrupts x).timebase = s.timebase := rfl
@[simp] theorem State.setInterrupts_journal (x : Interrupts) : (s.setInterrupts x).journal = s.journal := rfl
@[simp] theorem State.setInterrupts_engine (x : Interrupts) : (s.setInterrupts x).engine = s.engine := rfl
@[simp] theorem State.setInterrupts_interrupts (x : Interrupts) : (s.setInterrupts x).interrupts = x := rfl
@[simp] theorem State.setInterrupts_bus (x : Interrupts) : (s.setInterrupts x).bus = s.bus := rfl
@[simp] theorem State.setInterrupts_pending (x : Interrupts) : (s.setInterrupts x).pending = s.pending := rfl

/-! ## setBus -/

@[simp] theorem State.setBus_inReset (x : BusInterface) : (s.setBus x).inReset = s.inReset := rfl
@[simp] theorem State.setBus_counted (x : BusInterface) : (s.setBus x).counted = s.counted := rfl
@[simp] theorem State.setBus_axes (x : BusInterface) : (s.setBus x).axes = s.axes := rfl
@[simp] theorem State.setBus_schedules (x : BusInterface) : (s.setBus x).schedules = s.schedules := rfl
@[simp] theorem State.setBus_pool (x : BusInterface) : (s.setBus x).pool = s.pool := rfl
@[simp] theorem State.setBus_lines (x : BusInterface) : (s.setBus x).lines = s.lines := rfl
@[simp] theorem State.setBus_triggers (x : BusInterface) : (s.setBus x).triggers = s.triggers := rfl
@[simp] theorem State.setBus_timebase (x : BusInterface) : (s.setBus x).timebase = s.timebase := rfl
@[simp] theorem State.setBus_journal (x : BusInterface) : (s.setBus x).journal = s.journal := rfl
@[simp] theorem State.setBus_engine (x : BusInterface) : (s.setBus x).engine = s.engine := rfl
@[simp] theorem State.setBus_interrupts (x : BusInterface) : (s.setBus x).interrupts = s.interrupts := rfl
@[simp] theorem State.setBus_bus (x : BusInterface) : (s.setBus x).bus = x := rfl
@[simp] theorem State.setBus_pending (x : BusInterface) : (s.setBus x).pending = s.pending := rfl

/-! ## setPool -/

@[simp] theorem State.setPool_inReset (x : Pool) : (s.setPool x).inReset = s.inReset := rfl
@[simp] theorem State.setPool_counted (x : Pool) : (s.setPool x).counted = s.counted := rfl
@[simp] theorem State.setPool_axes (x : Pool) : (s.setPool x).axes = s.axes := rfl
@[simp] theorem State.setPool_schedules (x : Pool) : (s.setPool x).schedules = s.schedules := rfl
@[simp] theorem State.setPool_pool (x : Pool) : (s.setPool x).pool = x := rfl
@[simp] theorem State.setPool_lines (x : Pool) : (s.setPool x).lines = s.lines := rfl
@[simp] theorem State.setPool_triggers (x : Pool) : (s.setPool x).triggers = s.triggers := rfl
@[simp] theorem State.setPool_timebase (x : Pool) : (s.setPool x).timebase = s.timebase := rfl
@[simp] theorem State.setPool_journal (x : Pool) : (s.setPool x).journal = s.journal := rfl
@[simp] theorem State.setPool_engine (x : Pool) : (s.setPool x).engine = s.engine := rfl
@[simp] theorem State.setPool_interrupts (x : Pool) : (s.setPool x).interrupts = s.interrupts := rfl
@[simp] theorem State.setPool_bus (x : Pool) : (s.setPool x).bus = s.bus := rfl
@[simp] theorem State.setPool_pending (x : Pool) : (s.setPool x).pending = s.pending := rfl

/-! ## raise -/

@[simp] theorem State.raise_inReset (f : Flag) : (s.raise f).inReset = s.inReset := rfl
@[simp] theorem State.raise_counted (f : Flag) : (s.raise f).counted = s.counted := rfl
@[simp] theorem State.raise_axes (f : Flag) : (s.raise f).axes = s.axes := rfl
@[simp] theorem State.raise_schedules (f : Flag) : (s.raise f).schedules = s.schedules := rfl
@[simp] theorem State.raise_pool (f : Flag) : (s.raise f).pool = s.pool := rfl
@[simp] theorem State.raise_lines (f : Flag) : (s.raise f).lines = s.lines := rfl
@[simp] theorem State.raise_triggers (f : Flag) : (s.raise f).triggers = s.triggers := rfl
@[simp] theorem State.raise_timebase (f : Flag) : (s.raise f).timebase = s.timebase := rfl
@[simp] theorem State.raise_journal (f : Flag) : (s.raise f).journal = s.journal := rfl
@[simp] theorem State.raise_engine (f : Flag) : (s.raise f).engine = s.engine := rfl
@[simp] theorem State.raise_interrupts (f : Flag) : (s.raise f).interrupts = s.interrupts.raise f := rfl
@[simp] theorem State.raise_bus (f : Flag) : (s.raise f).bus = s.bus := rfl
@[simp] theorem State.raise_pending (f : Flag) : (s.raise f).pending = s.pending := rfl

/-! ## offer -/

@[simp] theorem State.offer_inReset (src : Source) (c : Content) : (s.offer src c).inReset = s.inReset := rfl
@[simp] theorem State.offer_counted (src : Source) (c : Content) : (s.offer src c).counted = s.counted := rfl
@[simp] theorem State.offer_axes (src : Source) (c : Content) : (s.offer src c).axes = s.axes := rfl
@[simp] theorem State.offer_schedules (src : Source) (c : Content) : (s.offer src c).schedules = s.schedules := rfl
@[simp] theorem State.offer_pool (src : Source) (c : Content) : (s.offer src c).pool = s.pool := rfl
@[simp] theorem State.offer_lines (src : Source) (c : Content) : (s.offer src c).lines = s.lines := rfl
@[simp] theorem State.offer_triggers (src : Source) (c : Content) : (s.offer src c).triggers = s.triggers := rfl
@[simp] theorem State.offer_timebase (src : Source) (c : Content) : (s.offer src c).timebase = s.timebase := rfl
@[simp] theorem State.offer_journal (src : Source) (c : Content) :
    (s.offer src c).journal = s.journal.offer { source := src, content := c } := rfl
@[simp] theorem State.offer_engine (src : Source) (c : Content) : (s.offer src c).engine = s.engine := rfl
@[simp] theorem State.offer_interrupts (src : Source) (c : Content) :
    (s.offer src c).interrupts = s.interrupts.raiseIf s.journal.full .jrnlLoss := rfl
@[simp] theorem State.offer_bus (src : Source) (c : Content) : (s.offer src c).bus = s.bus := rfl
@[simp] theorem State.offer_pending (src : Source) (c : Content) : (s.offer src c).pending = s.pending := rfl

/-! ## perform -/

@[simp] theorem State.perform_inReset (a : Option HostAction) : (s.perform a).inReset = s.inReset := rfl
@[simp] theorem State.perform_counted (a : Option HostAction) : (s.perform a).counted = s.counted := rfl
@[simp] theorem State.perform_axes (a : Option HostAction) : (s.perform a).axes = s.axes := rfl
@[simp] theorem State.perform_schedules (a : Option HostAction) : (s.perform a).schedules = s.schedules := rfl
@[simp] theorem State.perform_pool (a : Option HostAction) : (s.perform a).pool = s.pool := rfl
@[simp] theorem State.perform_lines (a : Option HostAction) : (s.perform a).lines = s.lines := rfl
@[simp] theorem State.perform_triggers (a : Option HostAction) : (s.perform a).triggers = s.triggers := rfl
@[simp] theorem State.perform_timebase (a : Option HostAction) : (s.perform a).timebase = s.timebase := rfl
@[simp] theorem State.perform_journal (a : Option HostAction) : (s.perform a).journal = a.elim s.journal (s.journal.perform s.now) := rfl
@[simp] theorem State.perform_engine (a : Option HostAction) : (s.perform a).engine = s.engine := rfl
@[simp] theorem State.perform_interrupts (a : Option HostAction) : (s.perform a).interrupts = s.interrupts := rfl
@[simp] theorem State.perform_bus (a : Option HostAction) : (s.perform a).bus = 
    { s.bus with dataOut := (a.bind s.journal.driven).or s.bus.dataOut } := rfl
@[simp] theorem State.perform_pending (a : Option HostAction) : (s.perform a).pending = s.pending := rfl

@[simp] theorem State.perform_none : s.perform none = s := by simp [State.perform]

/-! ## count -/

@[simp] theorem State.count_inReset : (s.count).inReset = s.inReset := rfl
@[simp] theorem State.count_counted : (s.count).counted = true := rfl
@[simp] theorem State.count_axes : (s.count).axes = s.axes.map Axis.tick := eachUnit_eq_map _ _
@[simp] theorem State.count_schedules : (s.count).schedules = s.schedules := rfl
@[simp] theorem State.count_pool : (s.count).pool = s.pool := rfl
@[simp] theorem State.count_lines : (s.count).lines = s.lines.map Line.tick := eachUnit_eq_map _ _
@[simp] theorem State.count_triggers : (s.count).triggers = s.triggers.map Trigger.tick := eachUnit_eq_map _ _
@[simp] theorem State.count_timebase : (s.count).timebase = { s.timebase with sampleDue := true } := rfl
@[simp] theorem State.count_journal : (s.count).journal = 
    { s.journal with age := s.journal.age.map AgeTimer.tick } := rfl
@[simp] theorem State.count_engine : (s.count).engine = s.engine := rfl
@[simp] theorem State.count_interrupts : (s.count).interrupts = s.interrupts := rfl
@[simp] theorem State.count_bus : (s.count).bus = s.bus := rfl
@[simp] theorem State.count_pending : (s.count).pending = s.pending := rfl

/-! ## advance -/

@[simp] theorem State.advance_inReset : (s.advance).inReset = s.inReset := rfl
@[simp] theorem State.advance_counted : (s.advance).counted = false := rfl
@[simp] theorem State.advance_axes : (s.advance).axes = s.axes := rfl
@[simp] theorem State.advance_schedules : (s.advance).schedules = 
    if s.timebase.advance = 0 then s.schedules else s.takeUpAll.schedules := rfl
@[simp] theorem State.advance_pool : (s.advance).pool = s.pool := rfl
@[simp] theorem State.advance_lines : (s.advance).lines = s.lines := rfl
@[simp] theorem State.advance_triggers : (s.advance).triggers = s.triggers := rfl
@[simp] theorem State.advance_timebase : (s.advance).timebase = s.timebase.tick := rfl
@[simp] theorem State.advance_journal : (s.advance).journal = s.journal.endMoment := rfl
@[simp] theorem State.advance_engine : (s.advance).engine = s.engine := rfl
@[simp] theorem State.advance_interrupts : (s.advance).interrupts = s.interrupts := rfl
@[simp] theorem State.advance_bus : (s.advance).bus = s.bus := rfl
@[simp] theorem State.advance_pending : (s.advance).pending = s.pending := rfl

/-! ## request -/

@[simp] theorem State.request_inReset (l : LineNo) (k : RequestKind) : (s.request l k).inReset = s.inReset := rfl
@[simp] theorem State.request_counted (l : LineNo) (k : RequestKind) : (s.request l k).counted = s.counted := rfl
@[simp] theorem State.request_axes (l : LineNo) (k : RequestKind) : (s.request l k).axes = s.axes := rfl
@[simp] theorem State.request_schedules (l : LineNo) (k : RequestKind) :
    (s.request l k).schedules = s.schedules := rfl
@[simp] theorem State.request_pool (l : LineNo) (k : RequestKind) : (s.request l k).pool = s.pool := rfl
@[simp] theorem State.request_lines (l : LineNo) (k : RequestKind) :
    (s.request l k).lines = s.lines.set l ((s.line l).take k) := rfl
@[simp] theorem State.request_triggers (l : LineNo) (k : RequestKind) : (s.request l k).triggers = s.triggers := rfl
@[simp] theorem State.request_timebase (l : LineNo) (k : RequestKind) : (s.request l k).timebase = s.timebase := rfl
@[simp] theorem State.request_journal (l : LineNo) (k : RequestKind) : (s.request l k).journal = s.journal := rfl
@[simp] theorem State.request_engine (l : LineNo) (k : RequestKind) : (s.request l k).engine = s.engine := rfl
@[simp] theorem State.request_interrupts (l : LineNo) (k : RequestKind) :
    (s.request l k).interrupts = s.interrupts.raiseIf ((s.line l).collides k) .outCollide := rfl
@[simp] theorem State.request_bus (l : LineNo) (k : RequestKind) : (s.request l k).bus = s.bus := rfl
@[simp] theorem State.request_pending (l : LineNo) (k : RequestKind) : (s.request l k).pending = s.pending := rfl

/-! ## takeUp -/

@[simp] theorem State.takeUp_inReset (n : AxisNo) : (s.takeUp n).inReset = s.inReset := rfl
@[simp] theorem State.takeUp_counted (n : AxisNo) : (s.takeUp n).counted = s.counted := rfl
@[simp] theorem State.takeUp_axes (n : AxisNo) : (s.takeUp n).axes = s.axes := rfl
@[simp] theorem State.takeUp_schedules (n : AxisNo) :
    (s.takeUp n).schedules = s.schedules.set n { s.schedule n with compareDue := true } := rfl
@[simp] theorem State.takeUp_pool (n : AxisNo) : (s.takeUp n).pool = s.pool := rfl
@[simp] theorem State.takeUp_lines (n : AxisNo) : (s.takeUp n).lines = s.lines := rfl
@[simp] theorem State.takeUp_triggers (n : AxisNo) : (s.takeUp n).triggers = s.triggers := rfl
@[simp] theorem State.takeUp_timebase (n : AxisNo) : (s.takeUp n).timebase = s.timebase := rfl
@[simp] theorem State.takeUp_journal (n : AxisNo) : (s.takeUp n).journal = s.journal := rfl
@[simp] theorem State.takeUp_engine (n : AxisNo) : (s.takeUp n).engine = s.engine := rfl
@[simp] theorem State.takeUp_interrupts (n : AxisNo) : (s.takeUp n).interrupts = s.interrupts := rfl
@[simp] theorem State.takeUp_bus (n : AxisNo) : (s.takeUp n).bus = s.bus := rfl
@[simp] theorem State.takeUp_pending (n : AxisNo) : (s.takeUp n).pending = s.pending := rfl

/-! ## takeUpAll -/

@[simp] theorem State.takeUpAll_inReset : (s.takeUpAll).inReset = s.inReset := rfl
@[simp] theorem State.takeUpAll_counted : (s.takeUpAll).counted = s.counted := rfl
@[simp] theorem State.takeUpAll_axes : (s.takeUpAll).axes = s.axes := rfl
@[simp] theorem State.takeUpAll_schedules :
    (s.takeUpAll).schedules = s.schedules.map ({ · with compareDue := true }) := by simp [State.takeUpAll]
@[simp] theorem State.takeUpAll_pool : (s.takeUpAll).pool = s.pool := rfl
@[simp] theorem State.takeUpAll_lines : (s.takeUpAll).lines = s.lines := rfl
@[simp] theorem State.takeUpAll_triggers : (s.takeUpAll).triggers = s.triggers := rfl
@[simp] theorem State.takeUpAll_timebase : (s.takeUpAll).timebase = s.timebase := rfl
@[simp] theorem State.takeUpAll_journal : (s.takeUpAll).journal = s.journal := rfl
@[simp] theorem State.takeUpAll_engine : (s.takeUpAll).engine = s.engine := rfl
@[simp] theorem State.takeUpAll_interrupts : (s.takeUpAll).interrupts = s.interrupts := rfl
@[simp] theorem State.takeUpAll_bus : (s.takeUpAll).bus = s.bus := rfl
@[simp] theorem State.takeUpAll_pending : (s.takeUpAll).pending = s.pending := rfl

/-! ## complete -/

@[simp] theorem State.complete_inReset (code : ResultCode) (detail aux : BitVec 16) :
    (s.complete code detail aux).inReset = s.inReset := rfl
@[simp] theorem State.complete_counted (code : ResultCode) (detail aux : BitVec 16) :
    (s.complete code detail aux).counted = s.counted := rfl
@[simp] theorem State.complete_axes (code : ResultCode) (detail aux : BitVec 16) :
    (s.complete code detail aux).axes = s.axes := rfl
@[simp] theorem State.complete_schedules (code : ResultCode) (detail aux : BitVec 16) :
    (s.complete code detail aux).schedules = s.schedules := rfl
@[simp] theorem State.complete_pool (code : ResultCode) (detail aux : BitVec 16) :
    (s.complete code detail aux).pool = s.pool := rfl
@[simp] theorem State.complete_lines (code : ResultCode) (detail aux : BitVec 16) :
    (s.complete code detail aux).lines = s.lines := rfl
@[simp] theorem State.complete_triggers (code : ResultCode) (detail aux : BitVec 16) :
    (s.complete code detail aux).triggers = s.triggers := rfl
@[simp] theorem State.complete_timebase (code : ResultCode) (detail aux : BitVec 16) :
    (s.complete code detail aux).timebase = s.timebase := rfl
@[simp] theorem State.complete_journal (code : ResultCode) (detail aux : BitVec 16) :
    (s.complete code detail aux).journal = s.journal := rfl
@[simp] theorem State.complete_engine (code : ResultCode) (detail aux : BitVec 16) :
    (s.complete code detail aux).engine = { s.engine with phase := .idle, result := code, detail := detail, aux := aux } := rfl
@[simp] theorem State.complete_interrupts (code : ResultCode) (detail aux : BitVec 16) :
    (s.complete code detail aux).interrupts = (s.interrupts.raise .cmdDone).raiseIf (code ≠ .ok) .cmdErr := rfl
@[simp] theorem State.complete_bus (code : ResultCode) (detail aux : BitVec 16) :
    (s.complete code detail aux).bus = s.bus := rfl
@[simp] theorem State.complete_pending (code : ResultCode) (detail aux : BitVec 16) :
    (s.complete code detail aux).pending = s.pending := rfl

/-! ## drive -/

@[simp] theorem State.drive_inReset (v : Halfword) : (s.drive v).inReset = s.inReset := rfl
@[simp] theorem State.drive_counted (v : Halfword) : (s.drive v).counted = s.counted := rfl
@[simp] theorem State.drive_axes (v : Halfword) : (s.drive v).axes = s.axes := rfl
@[simp] theorem State.drive_schedules (v : Halfword) : (s.drive v).schedules = s.schedules := rfl
@[simp] theorem State.drive_pool (v : Halfword) : (s.drive v).pool = s.pool := rfl
@[simp] theorem State.drive_lines (v : Halfword) : (s.drive v).lines = s.lines := rfl
@[simp] theorem State.drive_triggers (v : Halfword) : (s.drive v).triggers = s.triggers := rfl
@[simp] theorem State.drive_timebase (v : Halfword) : (s.drive v).timebase = s.timebase := rfl
@[simp] theorem State.drive_journal (v : Halfword) : (s.drive v).journal = s.journal := rfl
@[simp] theorem State.drive_engine (v : Halfword) : (s.drive v).engine = s.engine := rfl
@[simp] theorem State.drive_interrupts (v : Halfword) : (s.drive v).interrupts = s.interrupts := rfl
@[simp] theorem State.drive_bus (v : Halfword) : (s.drive v).bus = { s.bus with dataOut := some v } := rfl
@[simp] theorem State.drive_pending (v : Halfword) : (s.drive v).pending = s.pending := rfl

/-! ## setEntry -/

@[simp] theorem State.setEntry_inReset (k : Slot) (e : Entry) : (s.setEntry k e).inReset = s.inReset := rfl
@[simp] theorem State.setEntry_counted (k : Slot) (e : Entry) : (s.setEntry k e).counted = s.counted := rfl
@[simp] theorem State.setEntry_axes (k : Slot) (e : Entry) : (s.setEntry k e).axes = s.axes := rfl
@[simp] theorem State.setEntry_schedules (k : Slot) (e : Entry) : (s.setEntry k e).schedules = s.schedules := rfl
@[simp] theorem State.setEntry_pool (k : Slot) (e : Entry) :
    (s.setEntry k e).pool = { s.pool with entries := s.pool.entries.set k e } := rfl
@[simp] theorem State.setEntry_lines (k : Slot) (e : Entry) : (s.setEntry k e).lines = s.lines := rfl
@[simp] theorem State.setEntry_triggers (k : Slot) (e : Entry) : (s.setEntry k e).triggers = s.triggers := rfl
@[simp] theorem State.setEntry_timebase (k : Slot) (e : Entry) : (s.setEntry k e).timebase = s.timebase := rfl
@[simp] theorem State.setEntry_journal (k : Slot) (e : Entry) : (s.setEntry k e).journal = s.journal := rfl
@[simp] theorem State.setEntry_engine (k : Slot) (e : Entry) : (s.setEntry k e).engine = s.engine := rfl
@[simp] theorem State.setEntry_interrupts (k : Slot) (e : Entry) : (s.setEntry k e).interrupts = s.interrupts := rfl
@[simp] theorem State.setEntry_bus (k : Slot) (e : Entry) : (s.setEntry k e).bus = s.bus := rfl
@[simp] theorem State.setEntry_pending (k : Slot) (e : Entry) : (s.setEntry k e).pending = s.pending := rfl

end Sys2Proof.Machine
end

