-- ==== Sys2Proof/Laws/Units.lean ====
section
/-! SUPPORT. The units of the part read after an update: one lemma per accessor and update. -/
namespace Sys2Proof.Machine

/-! ## Saturating counters -/

/-- A saturating counter rises by one and stops at its largest value. -/
theorem satInc_toNat {w : Nat} (x : BitVec w) (hw : w ≠ 0) : (satInc x).toNat = min (x.toNat + 1) (2 ^ w - 1) := by
  have hx := x.isLt
  unfold satInc
  split
  · rename_i h
    subst h
    simp
  · rename_i h
    have hne : x.toNat ≠ 2 ^ w - 1 := fun h' => h (BitVec.eq_of_toNat_eq (by simpa using h'))
    have h1 : (1 : BitVec w).toNat = 1 := by
      rw [BitVec.ofNat_eq_ofNat, BitVec.toNat_ofNat, Nat.mod_eq_of_lt (Nat.one_lt_two_pow hw)]
    rw [BitVec.toNat_add, h1, Nat.mod_eq_of_lt (by omega)]
    omega

variable (s : State)

/-! ## A unit read after it is set -/

@[simp] theorem State.setAxis_axis_self (n : AxisNo) (x : Axis) : (s.setAxis n x).axis n = x := by
  simp [State.setAxis, State.axis]

theorem State.setAxis_axis (n m : AxisNo) (x : Axis) : (s.setAxis n x).axis m = if n = m then x else s.axis m := by
  simp [State.setAxis, State.axis, Vector.getElem_set, Fin.ext_iff]

@[simp] theorem State.setAxis_axis_of_ne (n m : AxisNo) (x : Axis) (h : n ≠ m) : (s.setAxis n x).axis m = s.axis m := by
  simp [State.setAxis_axis, h]

@[simp] theorem State.setAxis_of_axis (n : AxisNo) : s.setAxis n (s.axis n) = s := by
  simp [State.setAxis, State.axis]

@[simp] theorem State.setAxis_setAxis (n : AxisNo) (x y : Axis) : (s.setAxis n x).setAxis n y = s.setAxis n y := by
  simp [State.setAxis]

@[simp] theorem State.setSchedule_schedule_self (n : AxisNo) (x : Schedule) : (s.setSchedule n x).schedule n = x := by
  simp [State.setSchedule, State.schedule]

theorem State.setSchedule_schedule (n m : AxisNo) (x : Schedule) : (s.setSchedule n x).schedule m = if n = m then x else s.schedule m := by
  simp [State.setSchedule, State.schedule, Vector.getElem_set, Fin.ext_iff]

@[simp] theorem State.setSchedule_schedule_of_ne (n m : AxisNo) (x : Schedule) (h : n ≠ m) : (s.setSchedule n x).schedule m = s.schedule m := by
  simp [State.setSchedule_schedule, h]

@[simp] theorem State.setSchedule_of_schedule (n : AxisNo) : s.setSchedule n (s.schedule n) = s := by
  simp [State.setSchedule, State.schedule]

@[simp] theorem State.setSchedule_setSchedule (n : AxisNo) (x y : Schedule) : (s.setSchedule n x).setSchedule n y = s.setSchedule n y := by
  simp [State.setSchedule]

@[simp] theorem State.setLine_line_self (n : LineNo) (x : Line) : (s.setLine n x).line n = x := by
  simp [State.setLine, State.line]

theorem State.setLine_line (n m : LineNo) (x : Line) : (s.setLine n x).line m = if n = m then x else s.line m := by
  simp [State.setLine, State.line, Vector.getElem_set, Fin.ext_iff]

@[simp] theorem State.setLine_line_of_ne (n m : LineNo) (x : Line) (h : n ≠ m) : (s.setLine n x).line m = s.line m := by
  simp [State.setLine_line, h]

@[simp] theorem State.setLine_of_line (n : LineNo) : s.setLine n (s.line n) = s := by
  simp [State.setLine, State.line]

@[simp] theorem State.setLine_setLine (n : LineNo) (x y : Line) : (s.setLine n x).setLine n y = s.setLine n y := by
  simp [State.setLine]

@[simp] theorem State.setTrigger_trigger_self (n : TriggerNo) (x : Trigger) : (s.setTrigger n x).trigger n = x := by
  simp [State.setTrigger, State.trigger]

theorem State.setTrigger_trigger (n m : TriggerNo) (x : Trigger) : (s.setTrigger n x).trigger m = if n = m then x else s.trigger m := by
  simp [State.setTrigger, State.trigger, Vector.getElem_set, Fin.ext_iff]

@[simp] theorem State.setTrigger_trigger_of_ne (n m : TriggerNo) (x : Trigger) (h : n ≠ m) : (s.setTrigger n x).trigger m = s.trigger m := by
  simp [State.setTrigger_trigger, h]

@[simp] theorem State.setTrigger_of_trigger (n : TriggerNo) : s.setTrigger n (s.trigger n) = s := by
  simp [State.setTrigger, State.trigger]

@[simp] theorem State.setTrigger_setTrigger (n : TriggerNo) (x y : Trigger) : (s.setTrigger n x).setTrigger n y = s.setTrigger n y := by
  simp [State.setTrigger]

@[simp] theorem State.setEntry_entry_self (k : Slot) (e : Entry) : (s.setEntry k e).entry k = e := by
  simp [State.setEntry, State.entry]

theorem State.setEntry_entry (k m : Slot) (e : Entry) : (s.setEntry k e).entry m = if k = m then e else s.entry m := by
  simp [State.setEntry, State.entry, Vector.getElem_set, Fin.ext_iff]

@[simp] theorem State.setTimebase_now (x : Timebase) : (s.setTimebase x).now = x.time := rfl

theorem State.request_line (l m : LineNo) (k : RequestKind) :
    (s.request l k).line m = if l = m then (s.line l).take k else s.line m := by
  simp [State.request, State.line, Vector.getElem_set, Fin.ext_iff]

theorem State.takeUp_schedule (n m : AxisNo) :
    (s.takeUp n).schedule m = if n = m then { s.schedule n with compareDue := true } else s.schedule m := by
  simp [State.takeUp, State.setSchedule_schedule]

@[simp] theorem State.takeUpAll_schedule (m : AxisNo) :
    s.takeUpAll.schedule m = { s.schedule m with compareDue := true } := by
  simp [State.takeUpAll, State.schedule]

/-! ## A unit read after an update of another kind -/

@[simp] theorem State.setAxis_schedule (n : AxisNo) (x : Axis) (m : AxisNo) : (s.setAxis n x).schedule m = s.schedule m := rfl
@[simp] theorem State.setAxis_line (n : AxisNo) (x : Axis) (m : LineNo) : (s.setAxis n x).line m = s.line m := rfl
@[simp] theorem State.setAxis_trigger (n : AxisNo) (x : Axis) (m : TriggerNo) : (s.setAxis n x).trigger m = s.trigger m := rfl
@[simp] theorem State.setAxis_entry (n : AxisNo) (x : Axis) (m : Slot) : (s.setAxis n x).entry m = s.entry m := rfl
@[simp] theorem State.setAxis_now (n : AxisNo) (x : Axis) : (s.setAxis n x).now = s.now := rfl

@[simp] theorem State.setSchedule_axis (n : AxisNo) (x : Schedule) (m : AxisNo) : (s.setSchedule n x).axis m = s.axis m := rfl
@[simp] theorem State.setSchedule_line (n : AxisNo) (x : Schedule) (m : LineNo) : (s.setSchedule n x).line m = s.line m := rfl
@[simp] theorem State.setSchedule_trigger (n : AxisNo) (x : Schedule) (m : TriggerNo) : (s.setSchedule n x).trigger m = s.trigger m := rfl
@[simp] theorem State.setSchedule_entry (n : AxisNo) (x : Schedule) (m : Slot) : (s.setSchedule n x).entry m = s.entry m := rfl
@[simp] theorem State.setSchedule_now (n : AxisNo) (x : Schedule) : (s.setSchedule n x).now = s.now := rfl

@[simp] theorem State.setLine_axis (l : LineNo) (x : Line) (m : AxisNo) : (s.setLine l x).axis m = s.axis m := rfl
@[simp] theorem State.setLine_schedule (l : LineNo) (x : Line) (m : AxisNo) : (s.setLine l x).schedule m = s.schedule m := rfl
@[simp] theorem State.setLine_trigger (l : LineNo) (x : Line) (m : TriggerNo) : (s.setLine l x).trigger m = s.trigger m := rfl
@[simp] theorem State.setLine_entry (l : LineNo) (x : Line) (m : Slot) : (s.setLine l x).entry m = s.entry m := rfl
@[simp] theorem State.setLine_now (l : LineNo) (x : Line) : (s.setLine l x).now = s.now := rfl

@[simp] theorem State.setTrigger_axis (n : TriggerNo) (x : Trigger) (m : AxisNo) : (s.setTrigger n x).axis m = s.axis m := rfl
@[simp] theorem State.setTrigger_schedule (n : TriggerNo) (x : Trigger) (m : AxisNo) : (s.setTrigger n x).schedule m = s.schedule m := rfl
@[simp] theorem State.setTrigger_line (n : TriggerNo) (x : Trigger) (m : LineNo) : (s.setTrigger n x).line m = s.line m := rfl
@[simp] theorem State.setTrigger_entry (n : TriggerNo) (x : Trigger) (m : Slot) : (s.setTrigger n x).entry m = s.entry m := rfl
@[simp] theorem State.setTrigger_now (n : TriggerNo) (x : Trigger) : (s.setTrigger n x).now = s.now := rfl

@[simp] theorem State.setTimebase_axis (x : Timebase) (m : AxisNo) : (s.setTimebase x).axis m = s.axis m := rfl
@[simp] theorem State.setTimebase_schedule (x : Timebase) (m : AxisNo) : (s.setTimebase x).schedule m = s.schedule m := rfl
@[simp] theorem State.setTimebase_line (x : Timebase) (m : LineNo) : (s.setTimebase x).line m = s.line m := rfl
@[simp] theorem State.setTimebase_trigger (x : Timebase) (m : TriggerNo) : (s.setTimebase x).trigger m = s.trigger m := rfl
@[simp] theorem State.setTimebase_entry (x : Timebase) (m : Slot) : (s.setTimebase x).entry m = s.entry m := rfl

@[simp] theorem State.setJournal_axis (x : Journal) (m : AxisNo) : (s.setJournal x).axis m = s.axis m := rfl
@[simp] theorem State.setJournal_schedule (x : Journal) (m : AxisNo) : (s.setJournal x).schedule m = s.schedule m := rfl
@[simp] theorem State.setJournal_line (x : Journal) (m : LineNo) : (s.setJournal x).line m = s.line m := rfl
@[simp] theorem State.setJournal_trigger (x : Journal) (m : TriggerNo) : (s.setJournal x).trigger m = s.trigger m := rfl
@[simp] theorem State.setJournal_entry (x : Journal) (m : Slot) : (s.setJournal x).entry m = s.entry m := rfl
@[simp] theorem State.setJournal_now (x : Journal) : (s.setJournal x).now = s.now := rfl

@[simp] theorem State.setEngine_axis (x : Engine) (m : AxisNo) : (s.setEngine x).axis m = s.axis m := rfl
@[simp] theorem State.setEngine_schedule (x : Engine) (m : AxisNo) : (s.setEngine x).schedule m = s.schedule m := rfl
@[simp] theorem State.setEngine_line (x : Engine) (m : LineNo) : (s.setEngine x).line m = s.line m := rfl
@[simp] theorem State.setEngine_trigger (x : Engine) (m : TriggerNo) : (s.setEngine x).trigger m = s.trigger m := rfl
@[simp] theorem State.setEngine_entry (x : Engine) (m : Slot) : (s.setEngine x).entry m = s.entry m := rfl
@[simp] theorem State.setEngine_now (x : Engine) : (s.setEngine x).now = s.now := rfl

@[simp] theorem State.setInterrupts_axis (x : Interrupts) (m : AxisNo) : (s.setInterrupts x).axis m = s.axis m := rfl
@[simp] theorem State.setInterrupts_schedule (x : Interrupts) (m : AxisNo) : (s.setInterrupts x).schedule m = s.schedule m := rfl
@[simp] theorem State.setInterrupts_line (x : Interrupts) (m : LineNo) : (s.setInterrupts x).line m = s.line m := rfl
@[simp] theorem State.setInterrupts_trigger (x : Interrupts) (m : TriggerNo) : (s.setInterrupts x).trigger m = s.trigger m := rfl
@[simp] theorem State.setInterrupts_entry (x : Interrupts) (m : Slot) : (s.setInterrupts x).entry m = s.entry m := rfl
@[simp] theorem State.setInterrupts_now (x : Interrupts) : (s.setInterrupts x).now = s.now := rfl

@[simp] theorem State.setBus_axis (x : BusInterface) (m : AxisNo) : (s.setBus x).axis m = s.axis m := rfl
@[simp] theorem State.setBus_schedule (x : BusInterface) (m : AxisNo) : (s.setBus x).schedule m = s.schedule m := rfl
@[simp] theorem State.setBus_line (x : BusInterface) (m : LineNo) : (s.setBus x).line m = s.line m := rfl
@[simp] theorem State.setBus_trigger (x : BusInterface) (m : TriggerNo) : (s.setBus x).trigger m = s.trigger m := rfl
@[simp] theorem State.setBus_entry (x : BusInterface) (m : Slot) : (s.setBus x).entry m = s.entry m := rfl
@[simp] theorem State.setBus_now (x : BusInterface) : (s.setBus x).now = s.now := rfl

@[simp] theorem State.setPool_axis (x : Pool) (m : AxisNo) : (s.setPool x).axis m = s.axis m := rfl
@[simp] theorem State.setPool_schedule (x : Pool) (m : AxisNo) : (s.setPool x).schedule m = s.schedule m := rfl
@[simp] theorem State.setPool_line (x : Pool) (m : LineNo) : (s.setPool x).line m = s.line m := rfl
@[simp] theorem State.setPool_trigger (x : Pool) (m : TriggerNo) : (s.setPool x).trigger m = s.trigger m := rfl
@[simp] theorem State.setPool_now (x : Pool) : (s.setPool x).now = s.now := rfl

@[simp] theorem State.raise_axis (f : Flag) (m : AxisNo) : (s.raise f).axis m = s.axis m := rfl
@[simp] theorem State.raise_schedule (f : Flag) (m : AxisNo) : (s.raise f).schedule m = s.schedule m := rfl
@[simp] theorem State.raise_line (f : Flag) (m : LineNo) : (s.raise f).line m = s.line m := rfl
@[simp] theorem State.raise_trigger (f : Flag) (m : TriggerNo) : (s.raise f).trigger m = s.trigger m := rfl
@[simp] theorem State.raise_entry (f : Flag) (m : Slot) : (s.raise f).entry m = s.entry m := rfl
@[simp] theorem State.raise_now (f : Flag) : (s.raise f).now = s.now := rfl

@[simp] theorem State.offer_axis (src : Source) (c : Content) (m : AxisNo) : (s.offer src c).axis m = s.axis m := rfl
@[simp] theorem State.offer_schedule (src : Source) (c : Content) (m : AxisNo) :
    (s.offer src c).schedule m = s.schedule m := rfl
@[simp] theorem State.offer_line (src : Source) (c : Content) (m : LineNo) : (s.offer src c).line m = s.line m := rfl
@[simp] theorem State.offer_trigger (src : Source) (c : Content) (m : TriggerNo) :
    (s.offer src c).trigger m = s.trigger m := rfl
@[simp] theorem State.offer_entry (src : Source) (c : Content) (m : Slot) : (s.offer src c).entry m = s.entry m := rfl
@[simp] theorem State.offer_now (src : Source) (c : Content) : (s.offer src c).now = s.now := rfl

@[simp] theorem State.perform_axis (a : Option HostAction) (m : AxisNo) : (s.perform a).axis m = s.axis m := rfl
@[simp] theorem State.perform_schedule (a : Option HostAction) (m : AxisNo) : (s.perform a).schedule m = s.schedule m := rfl
@[simp] theorem State.perform_line (a : Option HostAction) (m : LineNo) : (s.perform a).line m = s.line m := rfl
@[simp] theorem State.perform_trigger (a : Option HostAction) (m : TriggerNo) : (s.perform a).trigger m = s.trigger m := rfl
@[simp] theorem State.perform_entry (a : Option HostAction) (m : Slot) : (s.perform a).entry m = s.entry m := rfl
@[simp] theorem State.perform_now (a : Option HostAction) : (s.perform a).now = s.now := rfl

@[simp] theorem State.request_axis (l : LineNo) (k : RequestKind) (m : AxisNo) :
    (s.request l k).axis m = s.axis m := rfl
@[simp] theorem State.request_schedule (l : LineNo) (k : RequestKind) (m : AxisNo) :
    (s.request l k).schedule m = s.schedule m := rfl
@[simp] theorem State.request_trigger (l : LineNo) (k : RequestKind) (m : TriggerNo) :
    (s.request l k).trigger m = s.trigger m := rfl
@[simp] theorem State.request_entry (l : LineNo) (k : RequestKind) (m : Slot) :
    (s.request l k).entry m = s.entry m := rfl
@[simp] theorem State.request_now (l : LineNo) (k : RequestKind) : (s.request l k).now = s.now := rfl

@[simp] theorem State.takeUp_axis (n : AxisNo) (m : AxisNo) : (s.takeUp n).axis m = s.axis m := rfl
@[simp] theorem State.takeUp_line (n : AxisNo) (m : LineNo) : (s.takeUp n).line m = s.line m := rfl
@[simp] theorem State.takeUp_trigger (n : AxisNo) (m : TriggerNo) : (s.takeUp n).trigger m = s.trigger m := rfl
@[simp] theorem State.takeUp_entry (n : AxisNo) (m : Slot) : (s.takeUp n).entry m = s.entry m := rfl
@[simp] theorem State.takeUp_now (n : AxisNo) : (s.takeUp n).now = s.now := rfl

@[simp] theorem State.takeUpAll_axis (m : AxisNo) : (s.takeUpAll).axis m = s.axis m := rfl
@[simp] theorem State.takeUpAll_line (m : LineNo) : (s.takeUpAll).line m = s.line m := rfl
@[simp] theorem State.takeUpAll_trigger (m : TriggerNo) : (s.takeUpAll).trigger m = s.trigger m := rfl
@[simp] theorem State.takeUpAll_entry (m : Slot) : (s.takeUpAll).entry m = s.entry m := rfl
@[simp] theorem State.takeUpAll_now : (s.takeUpAll).now = s.now := rfl

@[simp] theorem State.complete_axis (code : ResultCode) (detail aux : BitVec 16) (m : AxisNo) :
    (s.complete code detail aux).axis m = s.axis m := rfl
@[simp] theorem State.complete_schedule (code : ResultCode) (detail aux : BitVec 16) (m : AxisNo) :
    (s.complete code detail aux).schedule m = s.schedule m := rfl
@[simp] theorem State.complete_line (code : ResultCode) (detail aux : BitVec 16) (m : LineNo) :
    (s.complete code detail aux).line m = s.line m := rfl
@[simp] theorem State.complete_trigger (code : ResultCode) (detail aux : BitVec 16) (m : TriggerNo) :
    (s.complete code detail aux).trigger m = s.trigger m := rfl
@[simp] theorem State.complete_entry (code : ResultCode) (detail aux : BitVec 16) (m : Slot) :
    (s.complete code detail aux).entry m = s.entry m := rfl
@[simp] theorem State.complete_now (code : ResultCode) (detail aux : BitVec 16) :
    (s.complete code detail aux).now = s.now := rfl

@[simp] theorem State.drive_axis (v : Halfword) (m : AxisNo) : (s.drive v).axis m = s.axis m := rfl
@[simp] theorem State.drive_schedule (v : Halfword) (m : AxisNo) : (s.drive v).schedule m = s.schedule m := rfl
@[simp] theorem State.drive_line (v : Halfword) (m : LineNo) : (s.drive v).line m = s.line m := rfl
@[simp] theorem State.drive_trigger (v : Halfword) (m : TriggerNo) : (s.drive v).trigger m = s.trigger m := rfl
@[simp] theorem State.drive_entry (v : Halfword) (m : Slot) : (s.drive v).entry m = s.entry m := rfl
@[simp] theorem State.drive_now (v : Halfword) : (s.drive v).now = s.now := rfl

@[simp] theorem State.setEntry_axis (k : Slot) (e : Entry) (m : AxisNo) : (s.setEntry k e).axis m = s.axis m := rfl
@[simp] theorem State.setEntry_schedule (k : Slot) (e : Entry) (m : AxisNo) :
    (s.setEntry k e).schedule m = s.schedule m := rfl
@[simp] theorem State.setEntry_line (k : Slot) (e : Entry) (m : LineNo) : (s.setEntry k e).line m = s.line m := rfl
@[simp] theorem State.setEntry_trigger (k : Slot) (e : Entry) (m : TriggerNo) :
    (s.setEntry k e).trigger m = s.trigger m := rfl
@[simp] theorem State.setEntry_now (k : Slot) (e : Entry) : (s.setEntry k e).now = s.now := rfl

end Sys2Proof.Machine
end

