-- ==== Sys2Proof/Laws/Journal.lean ====
section
/-! SUPPORT. What the admission of records does (R137 to R141): lengths, numbers, the head of the ring, and what an offer
leaves alone. -/
namespace Sys2Proof.Machine

/-! ## The fixed order -/

@[simp] theorem insertOffer_length (o : Offer) (os : List Offer) : (insertOffer o os).length = os.length + 1 := by
  induction os with
  | nil => rfl
  | cons p ps ih => simp only [insertOffer]; split <;> simp [ih]

@[simp] theorem mem_insertOffer (o p : Offer) (os : List Offer) : p ∈ insertOffer o os ↔ p = o ∨ p ∈ os := by
  induction os with
  | nil => simp [insertOffer]
  | cons q qs ih =>
    simp only [insertOffer]
    split
    · simp
    · simp [ih]; tauto

theorem Source.place_injective {a b : Source} (h : a.place = b.place) : a = b := by
  cases a <;> cases b <;> simp only [Source.place] at h <;>
    first | rfl | (congr 1; apply Fin.ext; omega) | (exfalso; omega)

/-- Offers of different blocks may be inserted in either order. -/
theorem insertOffer_comm (a b : Offer) (h : a.source.place ≠ b.source.place) (os : List Offer) :
    insertOffer a (insertOffer b os) = insertOffer b (insertOffer a os) := by
  induction os with
  | nil =>
    simp only [insertOffer]
    split <;> split <;> first | rfl | omega
  | cons p ps ih =>
    simp only [insertOffer]
    by_cases h1 : b.source.place < p.source.place <;> by_cases h2 : a.source.place < p.source.place <;>
      simp only [h1, h2, if_true, if_false, insertOffer]
    · by_cases h3 : a.source.place < b.source.place
      · rw [if_pos h3, if_neg (by omega)]
      · rw [if_neg h3, if_pos (by omega)]
    · rw [if_neg (by omega)]
    · rw [if_neg (by omega)]
    · rw [ih]

/-! ## Admission of one record -/

/-- A ring with its next sequence number. -/
abbrev Numbering := List Record × BitVec 16

theorem admitOne_of_room (m : JournalMode) (r : Numbering) (c : Content) (h : r.1.length < Config.ringCapacity) :
    admitOne m r c = (r.1 ++ [{ seq := r.2, content := c }], r.2 + 1) := by simp [admitOne, h]

theorem admitOne_of_full_stop (r : Numbering) (c : Content) (h : Config.ringCapacity ≤ r.1.length) :
    admitOne .stop r c = r := by simp [admitOne, Nat.not_lt.mpr h]

theorem admitOne_of_full_overwrite (r : Numbering) (c : Content) (h : Config.ringCapacity ≤ r.1.length) :
    admitOne .overwrite r c = (r.1.tail ++ [{ seq := r.2, content := c }], r.2 + 1) := by
  simp [admitOne, Nat.not_lt.mpr h]

/-- Everything an admission can do: the record joins, it is lost, or it replaces the oldest. -/
theorem admitOne_cases (m : JournalMode) (r : Numbering) (c : Content) :
    (r.1.length < Config.ringCapacity ∧ admitOne m r c = (r.1 ++ [{ seq := r.2, content := c }], r.2 + 1)) ∨
    (Config.ringCapacity ≤ r.1.length ∧ m = .stop ∧ admitOne m r c = r) ∨
    (Config.ringCapacity ≤ r.1.length ∧ m = .overwrite ∧
      admitOne m r c = (r.1.tail ++ [{ seq := r.2, content := c }], r.2 + 1)) := by
  rcases Nat.lt_or_ge r.1.length Config.ringCapacity with h | h
  · exact .inl ⟨h, admitOne_of_room m r c h⟩
  · cases m
    · exact .inr (.inl ⟨h, rfl, admitOne_of_full_stop r c h⟩)
    · exact .inr (.inr ⟨h, rfl, admitOne_of_full_overwrite r c h⟩)

theorem admitOne_length (m : JournalMode) (r : Numbering) (c : Content) (h : r.1.length ≤ Config.ringCapacity) :
    (admitOne m r c).1.length = min Config.ringCapacity (r.1.length + 1) := by
  have hc : 0 < Config.ringCapacity := by decide
  obtain ⟨hl, e⟩ | ⟨hl, _, e⟩ | ⟨hl, _, e⟩ := admitOne_cases m r c <;> rw [e]
  · simp only [List.length_append, List.length_cons, List.length_nil]; omega
  · omega
  · simp only [List.length_append, List.length_tail, List.length_cons, List.length_nil]; omega

theorem Numbered.append {ring : List Record} {next : BitVec 16} (h : Numbered ring next) (c : Content) :
    Numbered (ring ++ [{ seq := next, content := c }]) (next + 1) := by
  intro i hi
  simp only [List.length_append, List.length_cons, List.length_nil] at hi ⊢
  rcases Nat.lt_or_ge i ring.length with h' | h'
  · have := h i h'
    rw [List.getElem_append_left h', ← this, BitVec.add_assoc,
      show ring.length + (0 + 1) - i = (ring.length - i) + 1 by omega, BitVec.ofNat_add]
    rfl
  · have : i = ring.length := by omega
    subst this
    simp

theorem Numbered.tail {ring : List Record} {next : BitVec 16} (h : Numbered ring next) : Numbered ring.tail next := by
  intro i hi
  simp only [List.length_tail] at hi
  have := h (i + 1) (by omega)
  simp only [List.getElem_tail, List.length_tail]
  rw [← this, show ring.length - 1 - i = ring.length - (i + 1) by omega]

theorem numbered_nil (next : BitVec 16) : Numbered [] next := fun _ h => absurd h (by simp)

theorem admitOne_numbered (m : JournalMode) (r : Numbering) (c : Content) (h : Numbered r.1 r.2) :
    Numbered (admitOne m r c).1 (admitOne m r c).2 := by
  obtain ⟨_, e⟩ | ⟨_, _, e⟩ | ⟨_, _, e⟩ := admitOne_cases m r c <;> rw [e]
  · exact h.append c
  · exact h
  · exact h.tail.append c

/-! ## The events of a moment -/

@[simp] theorem Arbiter.replay_nil (a : Arbiter) : a.replay [] = a := rfl

@[simp] theorem Arbiter.replay_cons (a : Arbiter) (e : JournalEvent) (es : List JournalEvent) :
    a.replay (e :: es) = (a.take e).replay es := rfl

@[simp] theorem Arbiter.replay_append (a : Arbiter) (es fs : List JournalEvent) :
    a.replay (es ++ fs) = (a.replay es).replay fs := by simp [Arbiter.replay]

@[simp] theorem Arbiter.remove_mode (a : Arbiter) (rest : List Record) (loss : Option Content) :
    (a.remove rest loss).mode = a.mode := by cases loss <;> rfl

@[simp] theorem Arbiter.remove_view (a : Arbiter) (rest : List Record) (loss : Option Content) :
    (a.remove rest loss).view = a.view := by cases loss <;> rfl

/-- Everything a removal can do to the ring and the numbers. -/
theorem Arbiter.remove_cases (a : Arbiter) (rest : List Record) (loss : Option Content) :
    (loss = none ∧ (a.remove rest loss).ring = rest ∧ (a.remove rest loss).nextSeq = a.nextSeq) ∨
    ∃ c, loss = some c ∧ (a.remove rest loss).ring = rest ++ [{ seq := a.nextSeq, content := c }] ∧
      (a.remove rest loss).nextSeq = a.nextSeq + 1 := by
  cases loss
  · exact .inl ⟨rfl, rfl, rfl⟩
  · exact .inr ⟨_, rfl, rfl, rfl⟩

theorem Arbiter.remove_length (a : Arbiter) (rest : List Record) (loss : Option Content) :
    (a.remove rest loss).ring.length = rest.length + loss.toList.length := by
  obtain ⟨rfl, h, _⟩ | ⟨c, rfl, h, _⟩ := a.remove_cases rest loss <;> rw [h] <;> simp

theorem Arbiter.take_length (a : Arbiter) (e : JournalEvent) (h : a.ring.length ≤ Config.ringCapacity) :
    (a.take e).ring.length ≤ Config.ringCapacity := by
  have hc : 1 < Config.ringCapacity := by decide
  cases e with
  | admission o => have := admitOne_length a.mode (a.ring, a.nextSeq) o.content h; simp only [Arbiter.take]; omega
  | openOldest => exact h
  | setMode m => exact h
  | release loss =>
    have := a.remove_length a.ring.tail loss
    have : loss.toList.length ≤ 1 := by cases loss <;> simp
    simp only [Arbiter.take, List.length_tail] at *
    omega
  | discard loss =>
    have := a.remove_length [] loss
    have : loss.toList.length ≤ 1 := by cases loss <;> simp
    simp only [Arbiter.take, List.length_nil] at *
    omega

theorem Arbiter.take_numbered (a : Arbiter) (e : JournalEvent) (h : Numbered a.ring a.nextSeq) :
    Numbered (a.take e).ring (a.take e).nextSeq := by
  have key : ∀ rest loss, Numbered rest a.nextSeq → Numbered (a.remove rest loss).ring (a.remove rest loss).nextSeq := by
    intro rest loss hr
    obtain ⟨_, h1, h2⟩ | ⟨c, _, h1, h2⟩ := a.remove_cases rest loss <;> rw [h1, h2]
    · exact hr
    · exact hr.append c
  cases e with
  | admission o => exact admitOne_numbered a.mode (a.ring, a.nextSeq) o.content h
  | openOldest => exact h
  | setMode m => exact h
  | release loss => exact key _ _ h.tail
  | discard loss => exact key _ _ (numbered_nil _)

theorem Arbiter.replay_length (es : List JournalEvent) (a : Arbiter) (h : a.ring.length ≤ Config.ringCapacity) :
    (a.replay es).ring.length ≤ Config.ringCapacity := by
  induction es generalizing a with
  | nil => exact h
  | cons e es ih => exact ih _ (a.take_length e h)

theorem Arbiter.replay_numbered (es : List JournalEvent) (a : Arbiter) (h : Numbered a.ring a.nextSeq) :
    Numbered (a.replay es).ring (a.replay es).nextSeq := by
  induction es generalizing a with
  | nil => exact h
  | cons e es ih => exact ih _ (a.take_numbered e h)

/-! ## Offers put into the places of the admissions -/

@[simp] theorem offersOf_append (es fs : List JournalEvent) : offersOf (es ++ fs) = offersOf es ++ offersOf fs := by
  induction es with
  | nil => rfl
  | cons e es ih => cases e <;> simp [offersOf, ih]

theorem refill_offersOf (es : List JournalEvent) : refill es (offersOf es) = es := by
  induction es with
  | nil => rfl
  | cons e es ih => cases e <;> simp [offersOf, refill, ih]

theorem offersOf_refill (es : List JournalEvent) (os : List Offer) (h : os.length = (offersOf es).length) :
    offersOf (refill es os) = os := by
  induction es generalizing os with
  | nil => cases os <;> simp_all [offersOf, refill]
  | cons e es ih =>
    cases e with
    | admission o => cases os <;> simp_all [offersOf, refill]
    | openOldest => exact ih os h
    | release l => exact ih os h
    | discard l => exact ih os h
    | setMode m => exact ih os h

theorem refill_refill (es : List JournalEvent) (os ps : List Offer) (h : ps.length = (offersOf es).length) :
    refill (refill es os) ps = refill es ps := by
  induction es generalizing os ps with
  | nil => cases ps <;> rfl
  | cons e es ih =>
    cases e with
    | admission o =>
      cases ps with
      | nil => simp [offersOf] at h
      | cons p ps => cases os <;> simp only [refill] <;> rw [ih _ _ (by simpa [offersOf] using h)]
    | openOldest => simp only [refill]; rw [ih _ _ h]
    | release l => simp only [refill]; rw [ih _ _ h]
    | discard l => simp only [refill]; rw [ih _ _ h]
    | setMode m => simp only [refill]; rw [ih _ _ h]

theorem refill_append (es fs : List JournalEvent) (os ps : List Offer) (h : os.length = (offersOf es).length) :
    refill (es ++ fs) (os ++ ps) = refill es os ++ refill fs ps := by
  induction es generalizing os with
  | nil => cases os <;> simp_all [offersOf, refill]
  | cons e es ih =>
    cases e with
    | admission o =>
      cases os with
      | nil => simp [offersOf] at h
      | cons p os => simp only [List.cons_append, refill]; rw [ih _ (by simpa [offersOf] using h)]
    | openOldest => simp only [List.cons_append, refill]; rw [ih _ h]
    | release l => simp only [List.cons_append, refill]; rw [ih _ h]
    | discard l => simp only [List.cons_append, refill]; rw [ih _ h]
    | setMode m => simp only [List.cons_append, refill]; rw [ih _ h]

/-- Two journals of one count: as many records, the same next number and the same mode. -/
def Arbiter.SameCount (a b : Arbiter) : Prop :=
  a.ring.length = b.ring.length ∧ a.nextSeq = b.nextSeq ∧ a.mode = b.mode

theorem Arbiter.SameCount.admission {a b : Arbiter} (h : a.SameCount b) (o p : Offer) :
    (a.take (.admission o)).SameCount (b.take (.admission p)) := by
  obtain ⟨h1, h2, h3⟩ := h
  obtain ⟨hl, e⟩ | ⟨hl, hm, e⟩ | ⟨hl, hm, e⟩ := admitOne_cases a.mode (a.ring, a.nextSeq) o.content <;>
    obtain ⟨hl', e'⟩ | ⟨hl', hm', e'⟩ | ⟨hl', hm', e'⟩ := admitOne_cases b.mode (b.ring, b.nextSeq) p.content <;>
    simp only at hl hl' <;>
    first
      | omega
      | (rw [h3, hm'] at hm; exact absurd hm (by decide))
      | (refine ⟨?_, ?_, h3⟩ <;> simp only [Arbiter.take, e, e'] <;> simp [h1, h2])

theorem Arbiter.SameCount.take {a b : Arbiter} (h : a.SameCount b) (e : JournalEvent) :
    (a.take e).SameCount (b.take e) := by
  cases e with
  | admission o => exact h.admission o o
  | openOldest => exact h
  | setMode m => exact ⟨h.1, h.2.1, rfl⟩
  | release loss => cases loss <;> simp [Arbiter.SameCount, Arbiter.take, Arbiter.remove, h.1, h.2.1, h.2.2]
  | discard loss => cases loss <;> simp [Arbiter.SameCount, Arbiter.take, Arbiter.remove, h.2.1, h.2.2]

/-- Which offers stand in the places of the admissions changes no count. -/
theorem Arbiter.SameCount.replay {a b : Arbiter} (h : a.SameCount b) (es : List JournalEvent) (os ps : List Offer) :
    (a.replay (refill es os)).SameCount (b.replay (refill es ps)) := by
  induction es generalizing a b os ps with
  | nil => cases os <;> cases ps <;> exact h
  | cons e es ih =>
    cases e with
    | admission o => cases os <;> cases ps <;> exact ih (h.admission _ _) _ _
    | openOldest => exact ih (h.take .openOldest) os ps
    | release l => exact ih (h.take (.release l)) os ps
    | discard l => exact ih (h.take (.discard l)) os ps
    | setMode m => exact ih (h.take (.setMode m)) os ps

/-! ## One more admission in a moment -/

theorem insertOffer_last (o : Offer) (os : List Offer) (h : ∀ p ∈ os, p.source.place ≤ o.source.place) :
    insertOffer o os = os ++ [o] := by
  induction os with
  | nil => rfl
  | cons p ps ih =>
    simp only [insertOffer, List.cons_append]
    rw [if_neg (Nat.not_lt.mpr (h p (by simp))), ih (fun q hq => h q (by simp [hq]))]

@[simp] theorem Moment.receive_start (m : Moment) (o : Offer) : (m.receive o).start = m.start := rfl

@[simp] theorem Moment.receive_offersOf (m : Moment) (o : Offer) :
    offersOf (m.receive o).events = insertOffer o (offersOf m.events) :=
  offersOf_refill _ _ (by simp [offersOf])

/-- An offer whose block has no place before that of an earlier offer joins at the end. -/
theorem Moment.receive_last (m : Moment) (o : Offer) (h : ∀ p ∈ offersOf m.events, p.source.place ≤ o.source.place) :
    (m.receive o).events = m.events ++ [.admission o] := by
  show refill (m.events ++ [.admission o]) (insertOffer o (offersOf m.events)) = _
  rw [insertOffer_last _ _ h, refill_append _ _ _ _ rfl, refill_offersOf]
  rfl

/-- The count after one more admission is that of an admission at the end. -/
theorem Moment.receive_count (m : Moment) (o : Offer) :
    (m.start.replay (m.receive o).events).SameCount ((m.start.replay m.events).take (.admission o)) := by
  have h := Arbiter.SameCount.replay (a := m.start) (b := m.start) ⟨rfl, rfl, rfl⟩ (m.events ++ [.admission o])
    (insertOffer o (offersOf m.events)) (offersOf m.events ++ [o])
  rw [refill_append _ _ _ _ rfl, refill_offersOf, Arbiter.replay_append] at h
  exact h

/-! ## What an offer does to a sound ring -/

/-- Of the counts, an offer makes what one admission makes. -/
theorem Journal.RingSound.offer_count {j : Journal} (h : j.RingSound) (o : Offer) :
    (j.offer o).arbiter.SameCount (j.arbiter.take (.admission o)) := by
  have h' := j.moment.receive_count o
  rw [h.2.2.2.2.2] at h'
  exact ⟨h'.1, h'.2.1, rfl⟩

theorem Journal.RingSound.offer_length {j : Journal} (h : j.RingSound) (o : Offer) :
    (j.offer o).ring.length = min Config.ringCapacity (j.ring.length + 1) :=
  (h.offer_count o).1.trans (admitOne_length j.mode (j.ring, j.nextSeq) o.content h.1)

theorem Journal.RingSound.offer_nextSeq {j : Journal} (h : j.RingSound) (o : Offer) : (j.offer o).nextSeq =
    if j.ring.length = Config.ringCapacity ∧ j.mode = .stop then j.nextSeq else j.nextSeq + 1 := by
  have hn : (j.offer o).nextSeq = (admitOne j.mode (j.ring, j.nextSeq) o.content).2 := (h.offer_count o).2.1
  have hl := h.1
  rw [hn]
  obtain ⟨h', e⟩ | ⟨h', hm, e⟩ | ⟨h', hm, e⟩ := admitOne_cases j.mode (j.ring, j.nextSeq) o.content <;> rw [e] <;>
    simp only at h' ⊢
  · rw [if_neg (fun hc => by omega)]
  · rw [if_pos ⟨by omega, hm⟩]
  · rw [if_neg (fun hc => by rw [hm] at hc; cases hc.2)]

/-- An offer whose block has no place before that of an earlier offer of the moment is one admission. -/
theorem Journal.RingSound.offer_last {j : Journal} (h : j.RingSound) (o : Offer)
    (ho : ∀ p ∈ offersOf j.moment.events, p.source.place ≤ o.source.place) :
    (j.offer o).arbiter = j.arbiter.take (.admission o) := by
  have e : (j.moment.start.replay (j.moment.receive o).events) = j.arbiter.take (.admission o) := by
    rw [j.moment.receive_last o ho, Arbiter.replay_append, h.2.2.2.2.2]
    rfl
  simp only [Journal.offer, Journal.arbiter, Moment.receive_start, e]
  rfl

/-! ## What an offer leaves alone -/

@[simp] theorem Journal.offer_mode (j : Journal) (o : Offer) : (j.offer o).mode = j.mode := rfl
@[simp] theorem Journal.offer_threshold (j : Journal) (o : Offer) : (j.offer o).threshold = j.threshold := rfl
@[simp] theorem Journal.offer_holdTime (j : Journal) (o : Offer) : (j.offer o).holdTime = j.holdTime := rfl
@[simp] theorem Journal.offer_reader (j : Journal) (o : Offer) : (j.offer o).reader = j.reader := rfl
@[simp] theorem Journal.offer_viewPointer (j : Journal) (o : Offer) : (j.offer o).viewPointer = j.viewPointer := rfl
@[simp] theorem Journal.offer_lastAccess (j : Journal) (o : Offer) : (j.offer o).lastAccess = j.lastAccess := rfl
@[simp] theorem Journal.offer_moment (j : Journal) (o : Offer) : (j.offer o).moment = j.moment.receive o := rfl
@[simp] theorem Journal.offer_ring (j : Journal) (o : Offer) :
    (j.offer o).ring = (j.moment.start.replay (j.moment.receive o).events).ring := rfl
@[simp] theorem Journal.offer_nextSeq (j : Journal) (o : Offer) :
    (j.offer o).nextSeq = (j.moment.start.replay (j.moment.receive o).events).nextSeq := rfl
@[simp] theorem Journal.offer_view (j : Journal) (o : Offer) :
    (j.offer o).view = (j.moment.start.replay (j.moment.receive o).events).view := rfl

/-! ## What a reader action leaves alone -/

@[simp] theorem Journal.act_arbiter (j : Journal) (e : JournalEvent) : (j.act e).arbiter = j.arbiter.take e := rfl
@[simp] theorem Journal.act_start (j : Journal) (e : JournalEvent) : (j.act e).moment.start = j.moment.start := rfl
@[simp] theorem Journal.act_events (j : Journal) (e : JournalEvent) :
    (j.act e).moment.events = j.moment.events ++ [e] := rfl
@[simp] theorem Journal.act_threshold (j : Journal) (e : JournalEvent) : (j.act e).threshold = j.threshold := rfl
@[simp] theorem Journal.act_holdTime (j : Journal) (e : JournalEvent) : (j.act e).holdTime = j.holdTime := rfl
@[simp] theorem Journal.act_pendingLoss (j : Journal) (e : JournalEvent) : (j.act e).pendingLoss = j.pendingLoss := rfl
@[simp] theorem Journal.act_overwrites (j : Journal) (e : JournalEvent) : (j.act e).overwrites = j.overwrites := rfl
@[simp] theorem Journal.act_reader (j : Journal) (e : JournalEvent) : (j.act e).reader = j.reader := rfl
@[simp] theorem Journal.act_openedMark (j : Journal) (e : JournalEvent) : (j.act e).openedMark = j.openedMark := rfl
@[simp] theorem Journal.act_viewPointer (j : Journal) (e : JournalEvent) : (j.act e).viewPointer = j.viewPointer := rfl
@[simp] theorem Journal.act_age (j : Journal) (e : JournalEvent) : (j.act e).age = j.age := rfl
@[simp] theorem Journal.act_ageLatch (j : Journal) (e : JournalEvent) : (j.act e).ageLatch = j.ageLatch := rfl
@[simp] theorem Journal.act_lastAccess (j : Journal) (e : JournalEvent) : (j.act e).lastAccess = j.lastAccess := rfl

/-! ## An offer that the configuration asks for -/

variable (s : State) (b : Bool) (src : Source) (c : Content)

/-- Everything a conditional offer can do. -/
theorem State.offerIf_cases : s.offerIf b src c = s ∨ b = true ∧ s.offerIf b src c = s.offer src c := by
  cases b
  · exact .inl rfl
  · exact .inr ⟨rfl, rfl⟩

@[simp] theorem State.offerIf_true : s.offerIf true src c = s.offer src c := rfl
@[simp] theorem State.offerIf_false : s.offerIf false src c = s := rfl
@[simp] theorem State.offerIf_inReset : (s.offerIf b src c).inReset = s.inReset := by cases b <;> rfl
@[simp] theorem State.offerIf_counted : (s.offerIf b src c).counted = s.counted := by cases b <;> rfl
@[simp] theorem State.offerIf_axes : (s.offerIf b src c).axes = s.axes := by cases b <;> rfl
@[simp] theorem State.offerIf_schedules : (s.offerIf b src c).schedules = s.schedules := by cases b <;> rfl
@[simp] theorem State.offerIf_pool : (s.offerIf b src c).pool = s.pool := by cases b <;> rfl
@[simp] theorem State.offerIf_lines : (s.offerIf b src c).lines = s.lines := by cases b <;> rfl
@[simp] theorem State.offerIf_triggers : (s.offerIf b src c).triggers = s.triggers := by cases b <;> rfl
@[simp] theorem State.offerIf_timebase : (s.offerIf b src c).timebase = s.timebase := by cases b <;> rfl
@[simp] theorem State.offerIf_engine : (s.offerIf b src c).engine = s.engine := by cases b <;> rfl
@[simp] theorem State.offerIf_bus : (s.offerIf b src c).bus = s.bus := by cases b <;> rfl
@[simp] theorem State.offerIf_pending : (s.offerIf b src c).pending = s.pending := by cases b <;> rfl
@[simp] theorem State.offerIf_axis (m : AxisNo) : (s.offerIf b src c).axis m = s.axis m := by cases b <;> rfl
@[simp] theorem State.offerIf_schedule (m : AxisNo) : (s.offerIf b src c).schedule m = s.schedule m := by cases b <;> rfl
@[simp] theorem State.offerIf_line (m : LineNo) : (s.offerIf b src c).line m = s.line m := by cases b <;> rfl
@[simp] theorem State.offerIf_trigger (m : TriggerNo) : (s.offerIf b src c).trigger m = s.trigger m := by cases b <;> rfl
@[simp] theorem State.offerIf_entry (m : Slot) : (s.offerIf b src c).entry m = s.entry m := by cases b <;> rfl
@[simp] theorem State.offerIf_now : (s.offerIf b src c).now = s.now := by cases b <;> rfl

end Sys2Proof.Machine
end

