-- ==== Sys2Proof/Laws/Engine.lean ====
section
/-! SUPPORT. What the command engine's shared operations do (R163 to R167): the table of opcodes, a command write, a command
row, a completion; and what the reset gate of `answer` does. -/
namespace Sys2Proof.Machine

/-! ## The table of opcodes -/

theorem Command.mem_all (c : Command) : c ∈ Command.all := by cases c <;> decide

theorem Command.code_injective {c d : Command} (h : c.code = d.code) : c = d := by
  revert h
  cases c <;> cases d <;> decide

@[simp] theorem Command.ofOpcode_code (c : Command) : Command.ofOpcode c.code = some c := by cases c <;> decide

theorem Command.ofOpcode_eq_some {o : BitVec 8} {c : Command} : Command.ofOpcode o = some c ↔ c.code = o := by
  constructor
  · intro h
    simpa using List.find?_some h
  · rintro rfl
    simp

theorem Command.ofOpcode_eq_none {o : BitVec 8} : Command.ofOpcode o = none ↔ ∀ c : Command, c.code ≠ o := by
  rw [Command.ofOpcode, List.find?_eq_none]
  simp [Command.mem_all]

@[simp] theorem field_commandWord_opcode (c : Command) (u : UnitNo) : (field (commandWord c u) 0 8 : BitVec 8) = c.code := by
  revert u
  cases c <;> decide

@[simp] theorem field_commandWord_unit (c : Command) (u : UnitNo) : (field (commandWord c u) 8 4 : BitVec 4) = u := by
  revert u
  cases c <;> decide

/-! ## The reset gate -/

theorem answer_of_reset (f : State → State) (s : State) (h : s.inReset = true) : answer f s = .next s := by
  simp [answer, State.outsideReset, h]

theorem answer_of_running (f : State → State) (s : State) (h : s.inReset = false) : answer f s = .next (f s) := by
  simp [answer, State.outsideReset, h]

/-- Everything an answer can be. -/
theorem answer_next {f : State → State} {s t : State} (h : answer f s = .next t) :
    (s.inReset = true ∧ t = s) ∨ (s.inReset = false ∧ t = f s) := by
  cases hr : s.inReset
  · rw [answer_of_running f s hr] at h
    exact .inr ⟨rfl, (Host.Outcome.next.inj h).symm⟩
  · rw [answer_of_reset f s hr] at h
    exact .inl ⟨rfl, (Host.Outcome.next.inj h).symm⟩

/-! ## Command writes -/

theorem State.awaits_iff (c : Command) (u : UnitNo) (s : State) :
    s.awaits c u = true ↔ s.engine.phase = .issued ∧ s.engine.opcode = c.code ∧ s.engine.unit = u := by
  simp [State.awaits, and_assoc]

/-- Everything a command write can do: an overrun, an issue, or an issue that fails a common check. -/
theorem State.commandWrite_cases (d : Halfword) (s : State) :
    (s.engine.phase ≠ .idle ∧ s.commandWrite d = s.raise .cmdOverrun) ∨
    (s.engine.phase = .idle ∧ ∃ c : Command, c.code = field d 0 8 ∧ (field d 8 4 : BitVec 4).toNat < c.units ∧
      s.commandWrite d = s.setEngine (s.engine.issue d)) ∨
    (s.engine.phase = .idle ∧ ∃ code detail aux, code ≠ .ok ∧
      s.commandWrite d = (s.setEngine (s.engine.issue d)).complete code detail aux) := by
  by_cases h : s.engine.phase = .idle
  · right
    simp only [State.commandWrite, h, ne_eq, not_true_eq_false, if_false]
    cases hc : Command.ofOpcode (s.setEngine (s.engine.issue d)).engine.opcode with
    | none => exact .inr ⟨trivial, _, _, _, by decide, rfl⟩
    | some c =>
      by_cases hu : (s.setEngine (s.engine.issue d)).engine.unit.toNat < c.units
      · exact .inl ⟨trivial, c, Command.ofOpcode_eq_some.mp hc, hu, if_pos hu⟩
      · exact .inr ⟨trivial, .badArg, _, _, by decide, if_neg hu⟩
  · exact .inl ⟨h, by simp [State.commandWrite, h]⟩

/-- Everything a command row can do [13]: its owner's event on the issued command, the write and the owner's event
together, or the write alone. -/
theorem State.carryOut_cases (c : Command) (u : UnitNo) (owner : State → State) (s : State) :
    (s.awaits c u = true ∧ s.carryOut c u owner = owner s) ∨
    (s.engine.phase = .idle ∧ u.toNat < c.units ∧
      s.carryOut c u owner = owner (s.setEngine (s.engine.issue (commandWord c u)))) ∨
    (s.awaits c u = false ∧ s.carryOut c u owner = s.commandWrite (commandWord c u)) := by
  cases ha : s.awaits c u
  · right
    simp only [State.carryOut, ha, Bool.false_eq_true, if_false]
    by_cases hp : s.engine.phase = .idle
    · by_cases hu : u.toNat < c.units
      · left
        have hw : s.commandWrite (commandWord c u) = s.setEngine (s.engine.issue (commandWord c u)) := by
          simp [State.commandWrite, hp, Engine.issue, hu]
        refine ⟨hp, hu, ?_⟩
        rw [hw, if_pos]
        refine ⟨hp, ?_⟩
        simp [State.awaits, Engine.issue]
      · right
        have hw : (s.commandWrite (commandWord c u)).engine.phase = .idle := by
          simp [State.commandWrite, hp, Engine.issue, hu, State.complete]
        refine ⟨trivial, if_neg ?_⟩
        rintro ⟨_, h⟩
        have := ((State.awaits_iff c u _).mp h).1
        rw [hw] at this
        cases this
    · right
      exact ⟨trivial, if_neg (fun h => hp h.1)⟩
  · exact .inl ⟨rfl, by simp [State.carryOut, ha]⟩

/-- A command that waits is taken by its owner. -/
theorem State.carryOut_of_awaits (c : Command) (u : UnitNo) (owner : State → State) (s : State) (h : s.awaits c u = true) :
    s.carryOut c u owner = owner s := by simp [State.carryOut, h]

/-- A command row that waits answers its owner's event. -/
theorem State.Waits.answer_carryOut {c : Command} {u : UnitNo} {s : State} (h : s.Waits c u) (owner : State → State) :
    answer (State.carryOut c u owner) s = .next (owner s) := by
  rw [answer_of_running _ _ h.1, State.carryOut_of_awaits _ _ _ _ ((State.awaits_iff c u s).mpr h.2)]

@[simp] theorem axisOf_unitOfAxis (n : AxisNo) : axisOf (unitOfAxis n) = n := by
  revert n
  decide

@[simp] theorem lineOf_unitOfLine (l : LineNo) : lineOf (unitOfLine l) = l := by
  revert l
  decide

/-! ## Completion -/

@[simp] theorem State.complete_idle (s : State) (code : ResultCode) (detail aux : BitVec 16) :
    (s.complete code detail aux).engine.phase = .idle := rfl

@[simp] theorem State.complete_result (s : State) (code : ResultCode) (detail aux : BitVec 16) :
    (s.complete code detail aux).engine.result = code := rfl

end Sys2Proof.Machine
end

