-- ==== Sys2Proof/Laws/Checks.lean ====
section
/-! SUPPORT. Which check a staged record fails first (R20, R31, R40): the two `firstBad` functions against the checks in
words, and the append's search over its batch. -/
namespace Sys2Proof.Machine

/-! ## A list of numbered checks -/

/-- A list of numbered checks in ascending order answers the lowest number that fails. -/
theorem firstFailing_spec (fails : Nat → Prop) (l : List (Nat × Bool)) (h1 : ∀ p ∈ l, (p.2 = true ↔ ¬ fails p.1))
    (h2 : (l.map (·.1)).Pairwise (· < ·)) (h3 : ∀ k, k ∉ l.map (·.1) → ¬ fails k) :
    (∀ k, (l.find? (fun c : Nat × Bool => !c.2)).map (·.1) = some k ↔ fails k ∧ ∀ k' < k, ¬ fails k') ∧
    ((l.find? (fun c : Nat × Bool => !c.2)).map (·.1) = none ↔ ∀ k, ¬ fails k) := by
  have hn : (l.find? (fun c : Nat × Bool => !c.2)).map (·.1) = none ↔ ∀ k, ¬ fails k := by
    simp only [Option.map_eq_none_iff, List.find?_eq_none]
    constructor
    · intro h k hk
      by_cases hm : k ∈ l.map (·.1)
      · obtain ⟨p, hp, rfl⟩ := List.mem_map.mp hm
        have := h p hp
        have := h1 p hp
        simp_all
      · exact h3 k hm hk
    · intro h p hp
      have := (h1 p hp).mpr (h _)
      simp [this]
  have found : ∀ m, (l.find? (fun c : Nat × Bool => !c.2)).map (·.1) = some m → fails m ∧ ∀ k < m, ¬ fails k := by
    intro m h
    obtain ⟨p, hp, rfl⟩ := Option.map_eq_some_iff.mp h
    obtain ⟨hb, as, bs, rfl, has⟩ := List.find?_eq_some_iff_append.mp hp
    refine ⟨?_, fun k hk hf => ?_⟩
    · by_contra hh
      have := (h1 p (by simp)).mpr hh
      simp_all
    · by_cases hm : k ∈ (as ++ p :: bs).map (·.1)
      · obtain ⟨q, hq, rfl⟩ := List.mem_map.mp hm
        rcases List.mem_append.mp hq with hq' | hq'
        · have := has q hq'
          have := h1 q hq
          simp_all
        · simp only [List.map_append, List.map_cons, List.pairwise_append, List.pairwise_cons] at h2
          rcases List.mem_cons.mp hq' with rfl | hq''
          · omega
          · have := h2.2.1.1 q.1 (List.mem_map_of_mem hq'')
            omega
      · exact h3 _ hm hf
  refine ⟨fun k => ⟨found k, ?_⟩, hn⟩
  rintro ⟨hf, hlt⟩
  cases hx : (l.find? (fun c : Nat × Bool => !c.2)).map (·.1) with
  | none => exact absurd hf (hn.mp hx k)
  | some m =>
    have hm := found m hx
    have h1 : ¬ k < m := fun h => hm.2 k h hf
    have h2 : ¬ m < k := fun h => hlt m h hm.1
    rw [show k = m by omega]

/-! ## Codes that name no value -/

theorem DecodeMode.ofCode_isSome (c : BitVec 3) : (DecodeMode.ofCode c).isSome = true ↔ ¬ 5 ≤ c.toNat := by
  revert c; decide

theorem Range.ofCode_isSome (c : BitVec 2) : (Range.ofCode c).isSome = true ↔ ¬ 2 ≤ c.toNat := by revert c; decide

theorem Qualifier.ofCode_isSome (c : BitVec 2) : (Qualifier.ofCode c).isSome = true ↔ ¬ 3 ≤ c.toNat := by
  revert c; decide

theorem OutputOp.ofCode_isSome (c : BitVec 3) : (OutputOp.ofCode c).isSome = true ↔ ¬ 5 ≤ c.toNat := by
  revert c; decide

theorem RecordField.ofCode_isSome (c : BitVec 2) : (RecordField.ofCode c).isSome = true ↔ ¬ 3 ≤ c.toNat := by
  revert c; decide

theorem gatePhaseOfCode_isSome (c : BitVec 3) :
    (gatePhaseOfCode c).isSome = true ↔ ¬ (c.toNat = 1 ∨ c.toNat = 2 ∨ c.toNat = 3) := by revert c; decide

theorem Gate.ofCode_isSome (kind : BitVec 2) (trigger : BitVec 3) :
    (Gate.ofCode kind trigger).isSome = true ↔ ¬ (kind.toNat = 3 ∨ (kind.toNat ≠ 0 ∧ 4 ≤ trigger.toNat)) := by
  revert kind trigger; decide

/-! ## The axis configuration staging record -/

/-- The checks of R20 in words: the record fails the check of this field. -/
def AxisStaging.Fails (r : AxisStaging) (k : Nat) : Prop :=
  match k with
  | 0 => 5 ≤ r.decodeMode.toNat
  | 2 => 2 ≤ r.range.toNat
  | 3 => r.range = 1 ∧ (r.modulus.toNat < 2 ∨ 16777216 < r.modulus.toNat)
  | 10 => r.gatePhase.toNat = 1 ∨ r.gatePhase.toNat = 2 ∨ r.gatePhase.toNat = 3
  | 11 => r.indexDirection.toNat = 3
  | 13 => r.range = 1 ∧ (r.reference.toInt < 0 ∨ (r.modulus.toNat : Int) ≤ r.reference.toInt)
  | 14 => r.quota.toNat = 0 ∨ 128 < r.quota.toNat
  | 15 => r.gateKind.toNat = 3 ∨ (r.gateKind.toNat ≠ 0 ∧ 4 ≤ r.gateTrigger.toNat)
  | _ => False

/-- The first field that fails, for every record. -/
theorem AxisStaging.firstBad_spec (r : AxisStaging) :
    (∀ k, r.firstBad = some k ↔ r.Fails k ∧ ∀ k' < k, ¬ r.Fails k') ∧ (r.firstBad = none ↔ ∀ k, ¬ r.Fails k) := by
  apply firstFailing_spec
  · simp only [List.forall_mem_cons, List.not_mem_nil, false_implies, implies_true, and_true, AxisStaging.Fails]
    refine ⟨DecodeMode.ofCode_isSome _, Range.ofCode_isSome _, ?_, gatePhaseOfCode_isSome _, ?_, ?_, ?_,
      Gate.ofCode_isSome _ _⟩
    · simp only [Bool.or_eq_true, Bool.and_eq_true, Bool.not_eq_true', decide_eq_false_iff_not, decide_eq_true_eq]
      rw [not_and_or, not_or, Nat.not_lt, Nat.not_lt]
      rfl
    · rw [Qualifier.ofCode_isSome]
      have := r.indexDirection.isLt
      omega
    · simp only [inRevolution, Bool.or_eq_true, Bool.not_eq_true', decide_eq_false_iff_not, decide_eq_true_eq]
      rw [not_and_or, not_or, Int.not_lt, Int.not_le]
    · simp only [Bool.and_eq_true, decide_eq_true_eq]
      omega
  · simp
  · intro k hk
    simp at hk
    unfold AxisStaging.Fails
    split <;> simp_all

/-! ## The staged entry -/

/-- The checks of R31 in words: the staged entry fails this check for an axis with this configuration. -/
def StagedEntry.Fails (c : AxisConfig) (e : StagedEntry) (k : Nat) : Prop :=
  match k with
  | 1 => 3 ≤ e.qualifier.toNat
  | 2 => 5 ≤ e.op.toNat
  | 3 => e.op.toNat ≠ 0 ∧ 8 ≤ e.line.toNat
  | 4 => 3 ≤ e.record.toNat
  | 5 => e.count.toNat = 0
  | 6 => c.range = .rotary ∧ (e.target.toInt < 0 ∨ (c.modulus.toNat : Int) ≤ e.target.toInt)
  | 7 => e.count.toNat ≠ 1 ∧
      (e.stride.toInt = 0 ∨ (c.range = .rotary ∧ c.modulus.toNat < e.stride.toInt.natAbs + 1))
  | _ => False

theorem bitVec_eq_iff_toNat {w : Nat} (x y : BitVec w) : x = y ↔ x.toNat = y.toNat :=
  ⟨congrArg _, BitVec.eq_of_toNat_eq⟩

/-- The first check that fails, for every staged entry. -/
theorem StagedEntry.firstBad_spec (c : AxisConfig) (e : StagedEntry) :
    (∀ k, e.firstBad c = some k ↔ e.Fails c k ∧ ∀ k' < k, ¬ e.Fails c k') ∧
    (e.firstBad c = none ↔ ∀ k, ¬ e.Fails c k) := by
  have hz : e.stride = 0 ↔ e.stride.toInt = 0 := by
    constructor
    · intro h
      rw [h]
      rfl
    · intro h
      exact BitVec.eq_of_toInt_eq (by simpa using h)
  apply firstFailing_spec
  · simp only [List.forall_mem_cons, List.not_mem_nil, false_implies, implies_true, and_true, StagedEntry.Fails]
    refine ⟨Qualifier.ofCode_isSome _, OutputOp.ofCode_isSome _, ?_, RecordField.ofCode_isSome _, ?_, ?_, ?_⟩
    · simp only [Bool.or_eq_true, decide_eq_true_eq, bitVec_eq_iff_toNat, BitVec.ofNat_eq_ofNat, BitVec.toNat_ofNat]
      omega
    · simp only [decide_eq_true_eq, ne_eq, bitVec_eq_iff_toNat, BitVec.ofNat_eq_ofNat, BitVec.toNat_ofNat, Nat.zero_mod]
    · cases h : c.range <;> simp [inRevolution]
    · have h1 : e.count = 1 ↔ e.count.toNat = 1 := bitVec_eq_iff_toNat _ _
      simp only [Bool.or_eq_true, Bool.and_eq_true, decide_eq_true_eq, ne_eq, hz, h1]
      rw [not_and_or, not_not, not_or, not_and_or, Nat.not_lt]
      cases h : c.range <;> simp
  · simp
  · intro k hk
    simp at hk
    unfold StagedEntry.Fails
    split <;> simp_all

/-- The codes of the fields of an entry that an append step copies from a staged entry that passes the checks. -/
theorem StagedEntry.toEntry_codes {c : AxisConfig} {e : StagedEntry} (h : e.firstBad c = none) :
    Qualifier.ofCode e.qualifier = some e.toEntry.qualifier ∧ OutputOp.ofCode e.op = some e.toEntry.op ∧
    RecordField.ofCode e.record = some e.toEntry.record := by
  have hp := (e.firstBad_spec c).2.mp h
  obtain ⟨q, hq⟩ := Option.isSome_iff_exists.mp ((Qualifier.ofCode_isSome e.qualifier).mpr (hp 1))
  obtain ⟨o, ho⟩ := Option.isSome_iff_exists.mp ((OutputOp.ofCode_isSome e.op).mpr (hp 2))
  obtain ⟨r, hr⟩ := Option.isSome_iff_exists.mp ((RecordField.ofCode_isSome e.record).mpr (hp 4))
  simp [StagedEntry.toEntry, hq, ho, hr]

/-! ## The batch of an append -/

theorem Engine.badEntry_eq_none (c : AxisConfig) (first n : Nat) (e : Engine) (h : first + n ≤ 8) :
    e.badEntry c first n = none ↔
      ∀ i : Fin 8, first ≤ i.val → i.val < first + n → (e.staged[i]).firstBad c = none := by
  simp only [Engine.badEntry, List.findSome?_eq_none_iff, Option.map_eq_none_iff, List.mem_range']
  constructor
  · intro hh i h1 h2
    simpa using hh i.val ⟨i.val - first, by omega, by omega⟩
  · rintro hh i ⟨k, hk, rfl⟩
    have := hh ⟨first + 1 * k, by omega⟩ (by simp) (by simp; omega)
    convert this using 3
    apply Fin.ext
    simp
    omega

/-- The lowest staging slot of the batch that fails, with the number of its first failing check (R40). -/
theorem Engine.badEntry_of_first (c : AxisConfig) (first n : Nat) (e : Engine) (h : first + n ≤ 8) (i : Fin 8) (k : Nat)
    (h1 : first ≤ i.val) (h2 : i.val < first + n) (hb : (e.staged[i]).firstBad c = some k)
    (hn : ∀ i' : Fin 8, first ≤ i'.val → i'.val < i.val → (e.staged[i']).firstBad c = none) :
    e.badEntry c first n = some (i.val, k) := by
  have before : e.badEntry c first (i.val - first) = none :=
    (e.badEntry_eq_none c first (i.val - first) (by omega)).mpr fun i' h h' => hn i' h (by omega)
  have split : List.range' first n =
      List.range' first (i.val - first) ++ (i.val :: List.range' (i.val + 1) (n - (i.val - first) - 1)) := by
    have hlen : n = (i.val - first) + (1 + (n - (i.val - first) - 1)) := by omega
    conv_lhs => rw [hlen]
    rw [← List.range'_append, ← List.range'_append]
    simp
    omega
  have at_i : (e.staged[Fin.ofNat 8 i.val]).firstBad c = some k := by
    rw [← hb]
    congr 2
    apply Fin.ext
    simp
  unfold Engine.badEntry at before ⊢
  rw [split, List.findSome?_append, before]
  simp only [Option.none_or, List.findSome?_cons]
  rw [at_i]
  rfl

end Sys2Proof.Machine
end

