-- ==== Sys2Proof/Laws/Encoding.lean ====
section
/-! SUPPORT. The length of the encoding of a record (R194). -/
namespace Sys2Proof.Machine

theorem Gang.present_length (g : Gang) : g.present.length = (g.positions.toList.filter Option.isSome).length := by
  simp only [Gang.present]
  induction g.positions.toList with
  | nil => rfl
  | cons x xs ih => cases x <;> simp_all

theorem Gang.present_length_le (g : Gang) : g.present.length ≤ 4 := by
  rw [g.present_length]
  exact le_trans (List.length_filter_le _ _) (by simp)

theorem Gang.encode_length (g : Gang) : g.encode.length = 1 + 2 * g.present.length := by
  have h : ∀ xs : List (BitVec 32), (xs.flatMap halves32).length = 2 * xs.length := by
    intro xs
    induction xs with
    | nil => rfl
    | cons x xs ih => simp [ih, halves32]; omega
  simp only [Gang.encode, List.length_cons, h]
  omega

/-- The length of an encoding, group by group. -/
theorem Record.encode_length (r : Record) : r.encode.length =
    5 + (if r.content.position.isSome then 2 else 0) + (if r.content.revolution.isSome then 1 else 0) +
    (r.content.gang.elim 0 fun g => 1 + 2 * g.present.length) + (if r.content.entry.isSome then 2 else 0) +
    (if r.content.aux.isSome then 1 else 0) + (if r.content.value32.isSome then 2 else 0) +
    (if r.content.value48.isSome then 3 else 0) := by
  have e1 : ∀ o : Option (BitVec 32), (encodeOpt halves32 o).length = if o.isSome then 2 else 0 := by
    intro o; cases o <;> rfl
  have e2 : ∀ o : Option (BitVec 16), (encodeOpt (fun x => [x]) o).length = if o.isSome then 1 else 0 := by
    intro o; cases o <;> rfl
  have e3 : ∀ o : Option Gang, (encodeOpt Gang.encode o).length = o.elim 0 fun g => 1 + 2 * g.present.length := by
    intro o
    cases o
    · rfl
    · exact Gang.encode_length _
  have e4 : ∀ o : Option EntryGroup, (encodeOpt EntryGroup.encode o).length = if o.isSome then 2 else 0 := by
    intro o; cases o <;> rfl
  have e5 : ∀ o : Option Time, (encodeOpt halves48 o).length = if o.isSome then 3 else 0 := by
    intro o; cases o <;> rfl
  simp only [Record.encode, List.length_append, List.length_cons]
  rw [e1, e1, e2, e2, e3, e4, e5, show (halves48 r.content.stamp).length = 3 from rfl]

end Sys2Proof.Machine
end

