-- ==== Sys2Proof/Laws/Flags.lean ====
section
/-! SUPPORT. The sticky flags under each operation of the interrupt unit (R174, R176, R178). -/
namespace Sys2Proof.Machine

variable (f g : Flag) (i : Interrupts)

theorem Flag.number_lt : f.number < 15 := by
  cases f with
  | axFault n => have := n.isLt; simp only [Flag.number]; omega
  | schedDry n => have := n.isLt; simp only [Flag.number]; omega
  | _ => decide

theorem Flag.number_ne_ready : f.number ≠ readyNumber := by
  cases f <;> simp only [Flag.number, readyNumber] <;> omega

theorem Flag.number_injective {f g : Flag} (h : f.number = g.number) : f = g := by
  have hf : ∀ n : AxisNo, n.val < 4 := Fin.isLt
  cases f <;> cases g <;> simp only [Flag.number] at h
  case axFault.axFault n m => exact congrArg Flag.axFault (Fin.ext (by omega))
  case schedDry.schedDry n m => exact congrArg Flag.schedDry (Fin.ext (by omega))
  case axFault.schedDry n m => have := hf n; omega
  case schedDry.axFault n m => have := hf m; omega
  all_goals first | rfl | omega

@[simp] theorem Interrupts.raise_enables : (i.raise f).enables = i.enables := rfl

@[simp] theorem Interrupts.raiseIf_enables (b : Bool) : (i.raiseIf b f).enables = i.enables := by cases b <;> rfl

@[simp] theorem Interrupts.raiseIf_true : i.raiseIf true f = i.raise f := rfl

@[simp] theorem Interrupts.raiseIf_false : i.raiseIf false f = i := rfl

theorem Interrupts.raise_isSet : (i.raise f).isSet g = (i.isSet g || decide (f = g)) := by
  have h : g.number = f.number ↔ f = g := ⟨fun h => (Flag.number_injective h).symm, fun h => h ▸ rfl⟩
  simp [Interrupts.raise, Interrupts.isSet, h, g.number_lt]

theorem Interrupts.raiseIf_isSet (b : Bool) : (i.raiseIf b f).isSet g = (i.isSet g || (b && decide (f = g))) := by
  cases b <;> simp [Interrupts.raise_isSet]

theorem Interrupts.clear_isSet (d : Halfword) : (i.clear d).isSet g = (i.isSet g && !d.getLsbD g.number) := by
  have := g.number_lt
  simp [Interrupts.clear, Interrupts.isSet, this]

/-- The position of JRNL_READY is never written by a flag. -/
theorem Interrupts.raise_ready : (i.raise f).flags.getLsbD readyNumber = i.flags.getLsbD readyNumber := by
  simp [Interrupts.raise, f.number_ne_ready]

theorem Interrupts.raiseIf_ready (b : Bool) :
    (i.raiseIf b f).flags.getLsbD readyNumber = i.flags.getLsbD readyNumber := by
  cases b
  · rfl
  · exact i.raise_ready f

theorem Interrupts.clear_ready (d : Halfword) (h : i.flags.getLsbD readyNumber = false) :
    (i.clear d).flags.getLsbD readyNumber = false := by
  simp [Interrupts.clear, h]

end Sys2Proof.Machine
end

