-- ==== Sys2Proof/Laws/Schedules.lean ====
section
/-! SUPPORT. What an arrival, a fire, the departure of a head and an expiry do (R36, R52 to R61): the equation of each in
each case, and the fields that it leaves alone. -/
namespace Sys2Proof.Machine

variable (n : AxisNo) (k : Slot) (s : State)

/-! ## The head leaves -/

theorem State.returnHead_nil (h : (s.schedule n).list = []) : s.returnHead n = s := by simp [State.returnHead, h]

theorem State.returnHead_cons {rest : List Slot} (h : (s.schedule n).list = k :: rest) :
    s.returnHead n =
      (s.setSchedule n { s.schedule n with list := rest }).setPool { s.pool with free := s.pool.free ++ [k] } := by
  simp [State.returnHead, h]

/-- Everything the return of a head can do. -/
theorem State.returnHead_cases :
    ((s.schedule n).list = [] ∧ s.returnHead n = s) ∨
    ∃ k rest, (s.schedule n).list = k :: rest ∧ s.returnHead n =
      (s.setSchedule n { s.schedule n with list := rest }).setPool { s.pool with free := s.pool.free ++ [k] } := by
  cases h : (s.schedule n).list with
  | nil => exact .inl ⟨rfl, s.returnHead_nil n h⟩
  | cons k rest => exact .inr ⟨k, rest, rfl, s.returnHead_cons n k h⟩

/-- The departure of the head of a non-empty schedule. -/
theorem State.departHead_cons {rest : List Slot} (h : (s.schedule n).list = k :: rest) :
    s.departHead n =
      { s with schedules := s.schedules.set n { s.schedule n with
                 list := rest, compareDue := (s.schedule n).compareDue || !rest.isEmpty }
               pool := { s.pool with free := s.pool.free ++ [k] }
               interrupts := s.interrupts.raiseIf rest.isEmpty (.schedDry n) } := by
  simp [State.departHead, s.returnHead_cons n k h, State.schedule]

theorem State.returnHead_frame : s.returnHead n =
    { s with schedules := (s.returnHead n).schedules, pool := (s.returnHead n).pool } := by
  obtain ⟨_, e⟩ | ⟨k, rest, _, e⟩ := s.returnHead_cases n <;> rw [e] <;> rfl

theorem State.departHead_frame : s.departHead n =
    { s with schedules := (s.departHead n).schedules, pool := (s.departHead n).pool,
             interrupts := (s.departHead n).interrupts } := by
  simp only [State.departHead]
  rw [s.returnHead_frame n]

@[simp] theorem State.departHead_inReset : (s.departHead n).inReset = s.inReset := by rw [s.departHead_frame n]
@[simp] theorem State.departHead_axes : (s.departHead n).axes = s.axes := by rw [s.departHead_frame n]
@[simp] theorem State.departHead_lines : (s.departHead n).lines = s.lines := by rw [s.departHead_frame n]
@[simp] theorem State.departHead_triggers : (s.departHead n).triggers = s.triggers := by rw [s.departHead_frame n]
@[simp] theorem State.departHead_timebase : (s.departHead n).timebase = s.timebase := by rw [s.departHead_frame n]
@[simp] theorem State.departHead_journal : (s.departHead n).journal = s.journal := by rw [s.departHead_frame n]
@[simp] theorem State.departHead_engine : (s.departHead n).engine = s.engine := by rw [s.departHead_frame n]
@[simp] theorem State.departHead_bus : (s.departHead n).bus = s.bus := by rw [s.departHead_frame n]
@[simp] theorem State.departHead_pending : (s.departHead n).pending = s.pending := by rw [s.departHead_frame n]

/-! ## Fires -/

/-- Everything step 1 of a fire can do. -/
theorem State.sendOutput_cases (e : Entry) :
    (e.op = .none ∧ s.sendOutput e = s) ∨
    ∃ q, e.op.request = some q ∧ s.sendOutput e = s.request (Fin.ofNat 8 e.line.toNat) q := by
  cases h : e.op <;> simp [State.sendOutput, OutputOp.request, h]

theorem State.sendOutput_frame (e : Entry) : s.sendOutput e =
    { s with lines := (s.sendOutput e).lines, interrupts := (s.sendOutput e).interrupts } := by
  obtain ⟨_, h⟩ | ⟨q, _, h⟩ := s.sendOutput_cases e <;> rw [h] <;> rfl

theorem State.offerIf_frame (b : Bool) (src : Source) (c : Content) : s.offerIf b src c =
    { s with journal := (s.offerIf b src c).journal, interrupts := (s.offerIf b src c).interrupts } := by
  cases b <;> rfl

/-- Steps 1 and 2 of a fire touch the lines, the journal and the interrupt flags alone. -/
theorem State.fireOutput_frame (e : Entry) (b : Bool) (src : Source) (c : Content) :
    (s.sendOutput e).offerIf b src c =
      { s with lines := (s.sendOutput e).lines, journal := ((s.sendOutput e).offerIf b src c).journal,
               interrupts := ((s.sendOutput e).offerIf b src c).interrupts } := by
  rw [State.offerIf_frame, State.sendOutput_frame]

/-- What a fire leaves alone (R55). -/
theorem State.fire_frame : s.fire n k =
    { s with schedules := (s.fire n k).schedules, pool := (s.fire n k).pool, lines := (s.fire n k).lines,
             journal := (s.fire n k).journal, interrupts := (s.fire n k).interrupts } := by
  simp only [State.fire]
  split
  · rw [State.departHead_frame, State.setEntry, State.fireOutput_frame]
    rfl
  · rw [State.setEntry, State.fireOutput_frame]
    rfl

/-- Everything an arrival can do: nothing, or the fire of the head (R52, R53). -/
theorem State.arrival_cases :
    s.arrival n = s ∨
    ∃ k rest, (s.schedule n).list = k :: rest ∧ s.liveCondition n = true ∧ (s.axis n).position = (s.entry k).target ∧
      (s.entry k).qualifier.accepts (s.axis n).direction = true ∧ s.arrival n = s.fire n k := by
  cases h : (s.schedule n).list with
  | nil => exact .inl (by simp [State.arrival, h])
  | cons k rest =>
    by_cases hc : s.liveCondition n = true ∧ (s.axis n).position = (s.entry k).target ∧
        (s.entry k).qualifier.accepts (s.axis n).direction = true
    · exact .inr ⟨k, rest, rfl, hc.1, hc.2.1, hc.2.2, by simp only [State.arrival, h]; exact if_pos hc⟩
    · exact .inl (by simp only [State.arrival, h]; exact if_neg hc)

theorem State.arrival_frame : s.arrival n =
    { s with schedules := (s.arrival n).schedules, pool := (s.arrival n).pool, lines := (s.arrival n).lines,
             journal := (s.arrival n).journal, interrupts := (s.arrival n).interrupts } := by
  obtain e | ⟨k, rest, _, _, _, _, e⟩ := s.arrival_cases n <;> rw [e]
  exact s.fire_frame n k

/-! ## Expiries -/

/-- Everything a deadline comparison can do (R59 to R61). -/
theorem State.compareDeadline_cases :
    s.compareDeadline n = s.setSchedule n { s.schedule n with compareDue := false } ∨
    ∃ k rest, (s.schedule n).list = k :: rest ∧ s.evaluates n k = true ∧ (s.entry k).deadline.toNat ≤ s.now.toNat ∧
      s.compareDeadline n = (s.setSchedule n { s.schedule n with compareDue := false }).expire n k := by
  cases h : (s.schedule n).list with
  | nil => exact .inl (by simp [State.compareDeadline, h])
  | cons k rest =>
    by_cases hc : s.evaluates n k = true ∧ (s.entry k).deadline.toNat ≤ s.now.toNat
    · exact .inr ⟨k, rest, rfl, hc.1, hc.2, by simp only [State.compareDeadline, h]; exact if_pos hc⟩
    · exact .inl (by simp only [State.compareDeadline, h]; exact if_neg hc)

end Sys2Proof.Machine
end

