-- ==== Sys2Proof/Laws/Ticks.lean ====
section
/-! SUPPORT. What the events of the sample points, the expiries and the ticks of CLKIN do: each event is taken or there is
none, what each of them keeps, the end of a tick keeps, and when a command ends the tick before (R1, R77, R91, R108, R121,
R127) [2] [3]. -/
namespace Sys2Proof.Machine

variable (s : State)

/-! ## Each event of a sample point -/

/-- Everything the decoder's event can do. -/
theorem State.takeEvaluation_cases (e : AxisEvent) :
    ((s.axis e.axis).toEvaluate = false ∧ s.takeEvaluation e = s.perform e.between) ∨
    ((s.axis e.axis).toEvaluate = true ∧ s.takeEvaluation e = s.evaluate e) := by
  unfold State.takeEvaluation
  split <;> simp_all

/-- Everything the index unit's event can do. -/
theorem State.takeZChange_cases (e : AxisEvent) :
    ((s.axis e.axis).zChanged = false ∧ s.takeZChange e = s.perform e.between) ∨
    ((s.axis e.axis).zChanged = true ∧ (s.axis e.axis).qualifiedIndex = false ∧
      s.takeZChange e = (s.setAxis e.axis { s.axis e.axis with zChanged := false }).perform e.between) ∨
    ((s.axis e.axis).zChanged = true ∧ (s.axis e.axis).qualifiedIndex = true ∧
      s.takeZChange e = (s.setAxis e.axis { s.axis e.axis with zChanged := false }).takeIndex e.axis e.between) := by
  unfold State.takeZChange
  simp only
  split
  · split <;> simp_all
  · simp_all

/-- Everything a trigger unit's event can do. -/
theorem State.takeLevelChange_cases (n : TriggerNo) :
    ((s.trigger n).changed = false ∧ s.takeLevelChange n = s) ∨
    ((s.trigger n).changed = true ∧ (s.trigger n).isEdge = false ∧
      s.takeLevelChange n = s.setTrigger n { s.trigger n with changed := false }) ∨
    ((s.trigger n).changed = true ∧ (s.trigger n).isEdge = true ∧
      s.takeLevelChange n = (s.setTrigger n { s.trigger n with changed := false }).takeEdge n) := by
  unfold State.takeLevelChange
  split
  · split <;> simp_all
  · simp_all

/-- Everything the SYNC event can do. -/
theorem State.takeSyncChange_cases :
    (s.timebase.changed = false ∧ s.takeSyncChange = s) ∨
    (s.timebase.changed = true ∧ s.timebase.isEdge = false ∧
      s.takeSyncChange = s.setTimebase { s.timebase with changed := false }) ∨
    (s.timebase.changed = true ∧ s.timebase.isEdge = true ∧
      s.takeSyncChange = (s.setTimebase { s.timebase with changed := false }).takeSync) := by
  unfold State.takeSyncChange
  split
  · split <;> simp_all
  · simp_all

/-! ## What is left is taken -/

theorem State.when_keeps (P : State → Prop) (ready : State → Bool) (event : State → State) (h : P s)
    (he : ready s = true → P (event s)) : P (s.when ready event) := by
  unfold State.when
  split
  · exact he ‹_›
  · exact h

theorem foldl_keeps {α : Type} (P : State → Prop) (f : State → α → State) (hf : ∀ a t, P t → P (f t a)) (as : List α)
    (h : P s) : P (as.foldl f s) := by
  induction as generalizing s with
  | nil => exact h
  | cons a as ih => exact ih _ (hf a s h)

/-- What each of the four events of sample points keeps, taking what is left of them keeps. -/
theorem State.takeSampled_keeps (P : State → Prop) (evaluation : ∀ e t, P t → P (t.takeEvaluation e))
    (zChange : ∀ e t, P t → P (t.takeZChange e)) (levelChange : ∀ n t, P t → P (t.takeLevelChange n))
    (syncChange : ∀ t, P t → P t.takeSyncChange) (h : P s) : P s.takeSampled :=
  syncChange _ (foldl_keeps _ P _ (fun n _ ht => levelChange n _ ht) _
    (foldl_keeps _ P _ (fun _ _ ht => zChange _ _ (evaluation _ _ ht)) _ h))

/-- What each expiry keeps when its timer has run out, taking what is left of them keeps. -/
theorem State.takeExpiries_keeps (P : State → Prop)
    (holdoff : ∀ n t, P t → t.holdoffOver n = true → P (t.expireHoldoff n))
    (width : ∀ l t, P t → t.widthOver l = true → P (t.expireWidth l))
    (gap : ∀ l t, P t → t.gapOver l = true → P (t.expireGap l))
    (latch : ∀ t, P t → t.aged = true → P t.setAgeLatch) (h : P s) : P s.takeExpiries := by
  have triggers := foldl_keeps s P (fun t n => t.when (State.holdoffOver n) (State.expireHoldoff n))
    (fun n t ht => t.when_keeps P _ _ ht (holdoff n t ht)) [0, 1, 2, 3] h
  have lines := foldl_keeps _ P
    (fun t l => (t.when (State.widthOver l) (State.expireWidth l)).when (State.gapOver l) (State.expireGap l))
    (fun l t ht => by
      have hw := t.when_keeps P (State.widthOver l) (State.expireWidth l) ht (width l t ht)
      exact State.when_keeps _ P _ _ hw (gap l _ hw))
    [0, 1, 2, 3, 4, 5, 6, 7] triggers
  exact State.when_keeps _ P _ _ lines (latch _ lines)

/-- Where no event of a sample point is left, none is taken. -/
theorem State.takeSampled_of_taken (h : s.SamplesTaken) : s.takeSampled = s := by
  obtain ⟨ha, ht, hs⟩ := h
  have axes : ∀ ns : List AxisNo,
      ns.foldl (fun t n => (t.takeEvaluation { axis := n }).takeZChange { axis := n }) s = s := by
    intro ns
    induction ns with
    | nil => rfl
    | cons n ns ih =>
      have : (s.takeEvaluation { axis := n }).takeZChange { axis := n } = s := by
        simp [State.takeEvaluation, State.takeZChange, ha n]
      rw [List.foldl_cons, this, ih]
  have triggers : ∀ ns : List TriggerNo, ns.foldl (fun t n => t.takeLevelChange n) s = s := by
    intro ns
    induction ns with
    | nil => rfl
    | cons n ns ih => rw [List.foldl_cons, show s.takeLevelChange n = s by simp [State.takeLevelChange, ht n], ih]
  simp only [State.takeSampled]
  rw [axes, triggers]
  simp [State.takeSyncChange, hs]

/-- Where no expiry is left, none is taken. -/
theorem State.takeExpiries_of_taken (h : s.ExpiriesTaken) : s.takeExpiries = s := by
  obtain ⟨ht, hl, ha⟩ := h
  refine s.takeExpiries_keeps (fun t => t = s) ?_ ?_ ?_ ?_ rfl
  · rintro n t rfl h; simp [State.holdoffOver, ht n] at h
  · rintro l t rfl h; simp [State.widthOver, hl l] at h
  · rintro l t rfl h; simp [State.gapOver, hl l] at h
  · rintro t rfl h
    have hj : { t.journal with ageLatch := true } = t.journal := by rw [← ha h]
    simp only [State.setAgeLatch, hj]
    rfl

/-! ## The ticks of CLKIN -/

theorem State.countTick_of_counted (h : s.counted = true) : s.countTick = s := by simp [State.countTick, h]

/-- The counters count the coming tick, and nothing of the tick before is left. -/
theorem State.countTick_of_settled (h : s.Settled) (hc : s.counted = false) : s.countTick = s.count := by
  simp [State.countTick, hc, s.takeSampled_of_taken h.1, s.takeExpiries_of_taken (h.2 hc)]

/-- Everything an event that falls together with a tick can do (R121): it is taken after that tick, or before it, or there
is none. -/
theorem State.atTick_cases (ready : State → Bool) (event : State → State) :
    (ready s = true ∧ s.atTick ready event = event s) ∨
    (ready s = false ∧ s.counted = false ∧ ready s.countTick = true ∧ s.atTick ready event = event s.countTick) ∨
    (ready s = false ∧ ready s.countTick = false ∧ s.atTick ready event = s) := by
  unfold State.atTick
  cases hc : s.counted
  · split
    · exact .inl ⟨‹_›, rfl⟩
    · split <;> simp_all
  · rw [s.countTick_of_counted hc]
    split <;> simp_all

/-! ## The level that a trigger hands on -/

/-- While no change is outstanding the handed-on level is the filter's (R115). -/
theorem Trigger.level_of_unchanged (t : Trigger) (h : t.changed = false) : t.level = t.filter.level := by
  simp [Trigger.level, h]

/-- While a change is outstanding the handed-on level is the one before it (R115). -/
theorem Trigger.level_of_changed (t : Trigger) (h : t.changed = true) : t.level = !t.filter.level := by
  simp [Trigger.level, h]

end Sys2Proof.Machine
end

