-- ==== Sys2Proof/Tests/Slice0.lean ====
section
/-! SUPPORT. Tests of one step each, with the results that the spec's tables and worked examples give, and for every
statement with hypotheses a state that meets them. -/
namespace Sys2Proof.Tests
open Sys2Proof.Machine

/-! ## Small states -/

/-- The state after a command that answers a next state. -/
def after (c : Instr) (s : State) : State :=
  match exec c s with
  | .next t => t
  | .fault _ => s
  | .refused _ => s

/-- The command engine has issued a command. -/
def issued (c : Command) (u : UnitNo) (s : State) : State :=
  { s with engine := { s.engine with phase := .issued, opcode := c.code, unit := u } }

/-- The arguments of the command that waits. -/
def withArgs (a b : Halfword) (s : State) : State :=
  { s with engine := { s.engine with argCopy := (s.engine.argCopy.set 0 a).set 1 b } }

def pair (a b : Bool) : LinePair := { a := a, b := b }

/-- A COUNTING axis: its decoder phase, its filtered pair and its position. -/
def counting (old new : LinePair) (position : BitVec 32) (x : Axis) : Axis :=
  { x with state := .counting, phase := old, position := position
           filterA := { level := new.a, run := 0, fresh := false }
           filterB := { level := new.b, run := 0, fresh := false } }

/-- The part after reset with another axis `n`. -/
def axisState (n : AxisNo) (x : Axis) : State := State.reset.setAxis n x

/-- A schedule that holds the slots of a list, in that order, with their entries. -/
def fed (n : AxisNo) (es : List (Slot × Entry)) (s : State) : State :=
  { s with schedules := s.schedules.set n { s.schedule n with list := es.map (·.1) }
           pool := { free := s.pool.free.filter (fun k => !(es.map (·.1)).contains k)
                     entries := es.foldl (fun v e => v.set e.1 e.2) s.pool.entries } }

/-- A record of no particular content. -/
def bare (q : BitVec 16) : Record := { seq := q, content := { cause := .sync, stamp := 0 } }

/-- A journal that holds the records numbered from `first` on. -/
def holding (mode : JournalMode) (first : BitVec 16) (n : Nat) : Journal :=
  let ring := (List.range n).map (fun i => bare (first + BitVec.ofNat 16 i))
  { Journal.reset with ring := ring, nextSeq := first + BitVec.ofNat 16 n, mode := mode, age := some .start
                       moment := { start := { ring := ring, nextSeq := first + BitVec.ofNat 16 n, mode := mode, view := [] }
                                   events := [] } }

/-- The numbers of the records in the ring. -/
def numbers (s : State) : List (BitVec 16) := s.journal.ring.map Record.seq

/-- The causes of the records in the ring. -/
def causes (s : State) : List Cause := s.journal.ring.map (·.content.cause)

/-! ## Well-formedness -/

/-- A REGISTER_WRITE to an address that has a row of its own is refused: the command location, STAGE_SEL, OPEN on JCTRL. -/
theorem test_ill_formed_register_writes :
    (Instr.registerWrite 0x04 0x0011).wellFormed = false ∧ (Instr.registerWrite 0x0C 0).wellFormed = false ∧
    (Instr.registerWrite 0x70 1).wellFormed = false ∧ (Instr.registerWrite 0x5F 0).wellFormed = false := by decide

/-- ARG0 to ARG3, the trim interval, a read-only location and no reader action are REGISTER_WRITE (R148, R185). -/
theorem test_well_formed_register_writes :
    (Instr.registerWrite 0x08 1).wellFormed = true ∧ (Instr.registerWrite 0x66 1).wellFormed = true ∧
    (Instr.registerWrite 0x00 1).wellFormed = true ∧ (Instr.registerWrite 0x70 4).wellFormed = true := by decide

/-! ## Codes (11 section 11.6) -/

/-- Codes that name no value are refused: R31 checks 1, 2 and 4, R191. -/
theorem test_codes_without_a_value :
    Qualifier.ofCode 3 = none ∧ OutputOp.ofCode 5 = none ∧ OutputOp.ofCode 7 = none ∧ RecordField.ofCode 3 = none ∧
    DecodeMode.ofCode 5 = none ∧ Machine.Range.ofCode 2 = none ∧ gatePhaseOfCode 3 = none ∧ Gate.ofCode 3 0 = none ∧
    Gate.ofCode 1 4 = none ∧ CollisionPolicy.ofCode 3 = none ∧ TrimMode.ofCode 3 = none := by decide

/-- R190, R191: the largest code of each field that names a value. -/
theorem test_largest_codes :
    Qualifier.ofCode 2 = some .reverse ∧ OutputOp.ofCode 4 = some .toggle ∧ RecordField.ofCode 2 = some .gang ∧
    DecodeMode.ofCode 4 = some .upDown ∧ Machine.Range.ofCode 1 = some .rotary ∧
    gatePhaseOfCode 7 = some (some (pair true true)) ∧ gatePhaseOfCode 4 = some (some (pair false false)) ∧
    Gate.ofCode 2 3 = some (.onLevel 3 false) ∧ Gate.ofCode 0 7 = some .none := by decide

/-- R20: the lowest failing field is named; a LINEAR record passes with any modulus. -/
theorem test_first_bad_field :
    AxisStaging.reset.firstBad = none ∧
    { AxisStaging.reset with decodeMode := 5, range := 2 }.firstBad = some 0 ∧
    { AxisStaging.reset with range := 1, modulus := 16777217, gatePhase := 1 }.firstBad = some 3 ∧
    { AxisStaging.reset with range := 1, modulus := 3600, reference := 3600 }.firstBad = some 13 ∧
    { AxisStaging.reset with quota := 129 }.firstBad = some 14 ∧
    { AxisStaging.reset with gateKind := 3 }.firstBad = some 15 := by decide

/-- R31: each check fails alone, and the first that fails is named. -/
theorem test_first_bad_check :
    let rotary := { AxisConfig.reset with range := .rotary, modulus := 3600 }
    let e := StagedEntry.reset
    e.firstBad rotary = none ∧
    { e with qualifier := 3, op := 5 }.firstBad rotary = some 1 ∧ { e with op := 5 }.firstBad rotary = some 2 ∧
    { e with op := 1, line := 8 }.firstBad rotary = some 3 ∧ { e with line := 8 }.firstBad rotary = none ∧
    { e with record := 3 }.firstBad rotary = some 4 ∧ { e with count := 0 }.firstBad rotary = some 5 ∧
    { e with target := 3600 }.firstBad rotary = some 6 ∧ { e with count := 2 }.firstBad rotary = some 7 ∧
    { e with count := 2, stride := 3599 }.firstBad rotary = none ∧
    { e with count := 2, stride := -3600 }.firstBad rotary = some 7 := by decide

/-- R57: 3550 + 100 and 30 - 100 modulo 3600, and 2147483642 + 10 modulo 2^32 as a signed number. -/
theorem test_target_advance :
    let rotary := { AxisConfig.reset with range := .rotary, modulus := 3600 }
    rotary.advance 3550 100 = 50 ∧ rotary.advance 30 (-100) = 3530 ∧
    (AxisConfig.reset.advance 2147483642 10).toInt = -2147483644 := by decide

/-! ## Counting (01) -/

/-- R1: with length 2 a change is taken at the third differing sample point; an equal one clears the run. -/
theorem test_filter_length_two :
    let f : Filter := { level := false, run := 0, fresh := false }
    (f.sample 2 true).level = false ∧ ((f.sample 2 true).sample 2 true).level = false ∧
    (((f.sample 2 true).sample 2 true).sample 2 true).level = true ∧
    (((f.sample 2 true).sample 2 false).sample 2 true).run = 1 := by decide

/-- An axis with a DIV8 sample clock. -/
def slow (d : Divider) : State :=
  axisState 2 { Axis.reset with config := { AxisConfig.reset with sampleClock := .div8 }, divider := d }

set_option maxRecDepth 4000 in
/-- FILTER_SAMPLE_POINT is taken only at a sample point; the first one takes the raw level (R2, R23). -/
theorem test_sample_point_due :
    let s := slow { count := 0, due := true }
    ((after (.filterSamplePoint (.axis 2 true false true)) s).axis 2).filtered = pair true false ∧
    ((after (.filterSamplePoint (.axis 2 true false true)) s).axis 2).zChanged = false ∧
    after (.filterSamplePoint (.axis 2 true false true)) (slow { count := 6, due := false }) =
      slow { count := 6, due := false } := by
  repeat' apply And.intro
  all_goals rfl

set_option maxRecDepth 4000 in
/-- R2, R121: the sample point of the eighth tick, taken before that tick, carries the time from before it, and the tick is
counted once. -/
theorem test_sample_point_before_its_tick :
    let s := after (.filterSamplePoint (.axis 2 true false true)) (slow { count := 7, due := false })
    let t := after .timebaseTick s
    (s.axis 2).filtered = pair true false ∧ (s.axis 2).sampledAt = 0 ∧ t.timebase.time = 1 ∧
    (t.axis 2).divider = { count := 0, due := false } ∧ t.timebase.sampleDue = true := by
  repeat' apply And.intro
  all_goals rfl

/-- The rows of the table of R4, forward: X4 counts all four, X2 two, X1 one. -/
theorem test_quadrature_table :
    let seq := [pair false false, pair true false, pair true true, pair false true, pair false false]
    let run (m : DecodeMode) := List.zipWith (decode m) seq seq.tail
    run .quadX4 = [.plus, .plus, .plus, .plus] ∧ run .quadX2 = [.plus, .noStep, .plus, .noStep] ∧
    run .quadX1 = [.plus, .noStep, .noStep, .noStep] := by decide

/-- The axis of 01 section 1.4.1 at a sample point. -/
def faulting (old new : LinePair) (position : BitVec 32) (n : Nat) : State :=
  axisState 1 { counting old new position Axis.reset with
    config := { AxisConfig.reset with faultThreshold := 3, recordPhaseErrors := true }
    errorTotal := BitVec.ofNat 16 n, errorSince := BitVec.ofNat 8 n }

/-- 01 section 1.4.1, sample point 4: a step of -1, no error. -/
theorem test_fault_example_step :
    let t := after (.decoderEvaluation { axis := 1 }) (faulting (pair false false) (pair false true) 102 1)
    (t.axis 1).position = 101 ∧ (t.axis 1).direction = .reverse ∧ (t.axis 1).errorTotal = 1 ∧
    (t.axis 1).state = .counting ∧ causes t = [] := by decide

/-- 01 section 1.4.1, sample point 6: the third phase error faults the axis, PHASE_ERR before FAULT, AX_FAULT1 set. -/
theorem test_fault_example_fault :
    let t := after (.decoderEvaluation { axis := 1 }) (faulting (pair true false) (pair false true) 101 2)
    (t.axis 1).state = .faulted ∧ (t.axis 1).errorTotal = 3 ∧ (t.axis 1).errorSince = 3 ∧ (t.axis 1).position = 101 ∧
    causes t = [.phaseErr, .fault] ∧ t.journal.ring.map (·.content.value32) = [some 3, some 3] ∧
    t.interrupts.isSet (.axFault 1) = true ∧ t.interrupts.isSet (.axFault 0) = false := by decide

/-- R149: a DISCARD between the PHASE_ERR record and the FAULT record of one evaluation removes the first alone. -/
theorem test_discard_between_phase_error_and_fault :
    let s := faulting (pair true false) (pair false true) 101 2
    let t := after (.decoderEvaluation { axis := 1, between := some .discard }) s
    causes t = [.fault] ∧ t.journal.ring.map Record.seq = [1] ∧ (t.axis 1).state = .faulted ∧
    causes (after .readerDiscard (after (.decoderEvaluation { axis := 1 }) s)) = [] := by decide

/-- R8, R9: the ends of the LINEAR and of the ROTARY range. -/
theorem test_step_at_the_ends :
    let x := counting (pair false false) (pair true false) 0x7FFFFFFF Axis.reset
    let y := { counting (pair true false) (pair false false) 0 Axis.reset with
      config := { AxisConfig.reset with range := .rotary, modulus := 3600 } }
    (x.move .forward).position.toInt = -2147483648 ∧ x.wraps .forward = true ∧
    (y.move .reverse).position = 3599 ∧ (y.move .reverse).revolution.toInt = -1 := by decide

/-- 01 section 1.4.1: AXIS_RESUME takes the filtered pair, clears the count since resume and keeps the total (R16). -/
theorem test_resume_after_fault :
    let s := faulting (pair false true) (pair false false) 101 3
    let t := after (.axisResume 1) (issued .axisResume 1 (s.setAxis 1 { s.axis 1 with state := .faulted }))
    (t.axis 1).state = .counting ∧ (t.axis 1).phase = pair false false ∧ (t.axis 1).errorSince = 0 ∧
    (t.axis 1).errorTotal = 3 ∧ (t.axis 1).position = 101 ∧ t.engine.result = .ok := by decide

/-- R15, R17: a STOPPED axis cannot be stopped, and its error counts can be cleared. -/
theorem test_stop_and_clear :
    (after (.axisStop 0) State.reset).engine.result = .wrongState ∧
    ((after (.axisClrerr 1) (faulting (pair false false) (pair false false) 0 2)).axis 1).errorTotal = 0 := by decide

/-- R18: on a ROTARY axis 3600 is out of range and 3599 loads with revolution count 0. -/
theorem test_setpos_rotary :
    let x := { Axis.reset with config := { AxisConfig.reset with range := .rotary, modulus := 3600 }, revolution := 7 }
    let s (v : Halfword) := withArgs v 0 (issued .axisSetpos 0 (axisState 0 x))
    (after (.axisSetpos 0) (s 3600)).engine.result = .badArg ∧
    ((after (.axisSetpos 0) (s 3599)).axis 0).position = 3599 ∧
    ((after (.axisSetpos 0) (s 3599)).axis 0).revolution = 0 := by decide

/-- R20, R21: the staging record becomes the live configuration; a COUNTING axis refuses. -/
theorem test_axis_config :
    let s := State.reset.setEngine { State.reset.engine with axisStaging :=
      { AxisStaging.reset with range := 1, modulus := 3600, quota := 64 } }
    let t := after (.axisConfig 2) s
    (t.axis 2).config.range = .rotary ∧ (t.axis 2).config.quota = 64 ∧ t.engine.result = .ok ∧
    (after (.axisConfig 2) (s.setAxis 2 { s.axis 2 with state := .counting })).engine.result = .wrongState := by decide

/-! ## Schedules (02, 03) -/

/-- The axis and the schedule of 03 section 3.3.1 before a forward step. -/
def jitter (position : BitVec 32) : State :=
  let e : Entry := { Entry.blank with target := 500, qualifier := .forward, op := .pulse, line := 1, record := .self,
                                      tag := 4, count := 3, stride := 10, remaining := 3 }
  let f : Entry := { Entry.blank with target := 510, op := .toggle, line := 2, remaining := 1 }
  fed 0 [(12, e), (13, f)] (axisState 0 (counting (pair false false) (pair true false) position Axis.reset))

/-- 03 section 3.3.1, step 2: the fire at 500. -/
theorem test_fire_at_the_target :
    let t := after (.decoderEvaluation { axis := 0 }) (jitter 499)
    (t.entry 12).target = 510 ∧ (t.entry 12).remaining = 2 ∧ (t.line 1).state = .pulsing ∧ causes t = [.compare] ∧
    (t.journal.ring.map (·.content.entry)) = [some { slot := 12, tag := 4, remaining := 2 }] := by decide

/-- 03 section 3.3.1, step 1: no fire at 499, and none at 501. -/
theorem test_no_fire_beside_the_target :
    ((after (.decoderEvaluation { axis := 0 }) (jitter 498)).axis 0).position = 499 ∧
    ((after (.decoderEvaluation { axis := 0 }) (jitter 498)).entry 12).target = 500 ∧
    causes (after (.decoderEvaluation { axis := 0 }) (jitter 498)) = [] ∧
    ((after (.decoderEvaluation { axis := 0 }) (jitter 500)).entry 12).target = 500 := by decide

/-- The batch of 02 section 2.6.1 with the target of S6, and a short free list that begins as there. -/
def batch (target : BitVec 32) : State :=
  let e (p : BitVec 32) (tag : BitVec 8) : StagedEntry :=
    { StagedEntry.reset with target := p, qualifier := 1, op := 1, line := 3, record := 1, tag := tag }
  let s := (axisState 2 { Axis.reset with config := { AxisConfig.reset with range := .rotary, modulus := 3600 } }).setPool
    { State.reset.pool with free := [40, 41, 42, 43] }
  withArgs 4 3 (issued .schedAppend 2 (s.setEngine { s.engine with
    staged := ((s.engine.staged.set 4 (e 1200 7)).set 5 { e 1500 8 with count := 4, stride := 100 }).set 6
      { e target 9 with op := 2, line := 5, record := 0 } }))

/-- 02 section 2.6.1: the batch is refused for S6, then accepted. -/
theorem test_append_checks :
    (after (.schedAppend 2) (batch 3700)).engine.result = .badEntry ∧
    (after (.schedAppend 2) (batch 3700)).engine.detail = 6 ∧ (after (.schedAppend 2) (batch 3700)).engine.aux = 6 ∧
    (after (.schedAppend 2) (batch 100)).engine.phase = .appending { next := 4, left := 3, first := none } := by
  repeat' apply And.intro
  all_goals rfl

/-- 02 section 2.6.1: the first append step, and the completion after the last. -/
theorem test_append_step_and_completion :
    let t := after .appendStep (after (.schedAppend 2) (batch 100))
    (t.schedule 2).list = [40] ∧ (t.entry 40).target = 1200 ∧ (t.entry 40).remaining = 1 ∧ t.pool.free = [41, 42, 43] ∧
    (let u := after .appendCompletion (t.setEngine { t.engine with
       phase := .appending { next := 7, left := 0, first := some 40 } })
     u.engine.result = .ok ∧ u.engine.detail = 40 ∧ u.engine.aux = 1) := by
  repeat' apply And.intro
  all_goals rfl

/-- The head of 12 section 12.6 that carries a deadline of 0, before its comparison. -/
def expiring : State :=
  let s := fed 0 [(1, { Entry.blank with target := 150, tag := 11, remaining := 1, deadlinePresent := true })]
    (axisState 0 (counting (pair false false) (pair false false) 200 Axis.reset))
  s.setSchedule 0 { s.schedule 0 with compareDue := true }

/-- 12 section 12.6: the comparison expires slot 1 at position 200, and SCHED_DRY0 is set. -/
theorem test_expiry :
    let t := after (.deadlineComparison 0) expiring
    (t.schedule 0).list = [] ∧ causes t = [.expired] ∧ t.journal.ring.map (·.content.position) = [some 200] ∧
    t.pool.free.getLast? = some 1 ∧ t.interrupts.isSet (.schedDry 0) = true := by decide

/-- R59: no expiry on a FAULTED axis. -/
theorem test_no_expiry_while_faulted :
    ((after (.deadlineComparison 0) (expiring.setAxis 0 { expiring.axis 0 with state := .faulted })).schedule 0).list =
      [1] := by decide

/-- R66: SCHED_SKIP returns the head; R47: SCHED_HOLD reports the mode before and the length. -/
theorem test_skip_and_hold :
    (after (.schedSkip 0) (jitter 0)).engine.detail = 12 ∧ (after (.schedSkip 0) (jitter 0)).engine.aux = 1 ∧
    (after (.schedSkip 1) (jitter 0)).engine.result = .wrongState ∧
    ((after (.schedHold 0) (jitter 0)).schedule 0).runMode = .hold ∧ (after (.schedHold 0) (jitter 0)).engine.aux = 2 ∧
    (after (.schedRun 0) (jitter 0)).engine.detail = 0 := by decide

/-- R68, R70, R71: a flush of two entries, its first step, and its completion. -/
theorem test_flush :
    let t := after (.schedFlush 0) (jitter 0)
    let u := after .flushStep t
    let v := after .flushCompletion (after .flushStep u)
    (t.schedule 0).draining = true ∧ (u.schedule 0).list = [13] ∧ u.pool.free.getLast? = some 12 ∧
    causes v = [.flushed] ∧ v.engine.detail = 2 ∧ (v.schedule 0).draining = false := by decide

/-- R22, R36: AXIS_RESET returns the slots oldest first. -/
theorem test_axis_reset :
    let t := after (.axisReset 0) (jitter 499)
    (t.schedule 0).list = [] ∧ t.pool.free.drop 126 = [12, 13] ∧ (t.axis 0).state = .stopped ∧
    (t.axis 0).position = 0 := by decide

/-! ## Index and homing (04) -/

/-- The axis of 04 section 4.7.1 at an edge of Z. -/
def homing (d : Direction) (h : Homing) (position : BitVec 32) : State :=
  axisState 0 { counting (pair true true) (pair true true) position Axis.reset with
    config := { AxisConfig.reset with gatePhase := some (pair true true), indexDirection := .forward
                                      recordIndex := true }
    filterZ := { level := true, run := 0, fresh := false }, zChanged := true, direction := d, homing := h }

/-- 04 section 4.7.1, sample point 3: INDEX with the position 4095 and aux 3, then HOMED with the reference. -/
theorem test_homing_edge :
    let t := after (.indexEdge { axis := 0 }) (homing .forward .seeking 4095)
    (t.axis 0).position = 0 ∧ (t.axis 0).homing = .referenced ∧ causes t = [.index, .homed] ∧
    t.journal.ring.map (·.content.position) = [some 4095, some 0] ∧
    t.journal.ring.map (·.content.value32) = [none, some 4095] ∧
    t.journal.ring.map (·.content.aux) = [some 3, none] := by decide

/-- R149: an OPEN between the INDEX record and the HOMED record opens the first, and a RELEASE of it there admits HOMED
into an empty ring. -/
theorem test_actions_between_index_and_homed :
    let t := after (.indexEdge { axis := 0, between := some .openRecord }) (homing .forward .seeking 4095)
    causes t = [.index, .homed] ∧ t.journal.openedMark = true ∧
    t.journal.view = (t.journal.ring.head?.map Record.encode).getD [] ∧
    (after (.indexEdge { axis := 0, between := some .release }) (homing .forward .seeking 4095)).journal.lastAccess =
      .notOpen := by decide

/-- 04 section 4.7.1, sample point 8: the direction filter refuses the edge in reverse. -/
theorem test_index_direction :
    causes (after (.indexEdge { axis := 0 }) (homing .reverse .referenced 0)) = [] ∧
    ((after (.indexEdge { axis := 0 }) (homing .reverse .referenced 0)).axis 0).zChanged = false := by decide

/-- A STOPPED axis at the sample point of a change of Z. -/
def starting : State :=
  (homing .forward .seeking 4095).setAxis 0 { (homing .forward .seeking 4095).axis 0 with state := .stopped }

/-- R86: an AXIS_START taken before the change of Z of its moment lets it be recognised, and no step is counted (R14); a
change taken first is lost. -/
theorem test_start_at_the_sample_point_of_a_z_change :
    let t := after (.indexEdge { axis := 0 }) (after (.axisStart 0) starting)
    let u := after (.indexEdge { axis := 0 }) (after (.axisStart 0) (after (.indexEdge { axis := 0 }) starting))
    causes t = [.index, .homed] ∧ (t.axis 0).homing = .referenced ∧ (t.axis 0).toEvaluate = false ∧
    causes u = [] ∧ (u.axis 0).homing = .seeking := by decide

set_option maxRecDepth 4000 in
/-- R77: an active edge made while the axis is STOPPED is not kept for an AXIS_START after the next tick. -/
theorem test_no_edge_from_before_the_start :
    let t := after (.indexEdge { axis := 0 }) (after (.axisStart 0) (after .timebaseTick starting))
    causes t = [] ∧ (t.axis 0).homing = .seeking ∧ (t.axis 0).state = .counting := by
  repeat' apply And.intro
  all_goals rfl

/-- R84, R85: arming twice, and a cancel. -/
theorem test_home_commands :
    (after (.homeArm 0) (homing .forward .referenced 0)).engine.detail = 2 ∧
    (after (.homeArm 0) (homing .forward .seeking 0)).engine.result = .wrongState ∧
    ((after (.homeCancel 0) (homing .forward .seeking 0)).axis 0).homing = .unreferenced ∧
    (after (.homeCancel 0) (homing .forward .referenced 0)).engine.detail = 2 := by decide

/-! ## Output lines (05) -/

/-- The line OUT5 of 12 section 12.8 in a state. -/
def busy (st : LineState) (p : CollisionPolicy) (n : BitVec 16) (width gap : Option Nat) : State :=
  State.reset.setLine 5 { Line.reset with
    state := st, policy := p, width := 20, gap := 5, collisions := n, widthTimer := width, gapTimer := gap }

/-- 12 section 12.8: the request at 0.8 us is deferred, and the one at 1.5 us dropped. -/
theorem test_collisions :
    let t := after (.outPulse 5) (busy .pulsing .defer 0 (some 120) none)
    let u := after (.outPulse 5) (busy .deferred .discard 1 (some 50) none)
    (t.line 5).state = .deferred ∧ (t.line 5).collisions = 1 ∧ (t.line 5).widthTimer = some 120 ∧ t.engine.detail = 1 ∧
    t.engine.aux = 1 ∧ t.interrupts.isSet .outCollide = true ∧
    (u.line 5).state = .deferred ∧ (u.line 5).collisions = 2 := by decide

/-- 12 section 12.8: the expiries at 2.0 and 2.5 us. -/
theorem test_expiries_of_a_line :
    let t := after (.widthExpiry 5) (busy .deferred .discard 2 (some 0) none)
    let u := after (.gapExpiry 5) (busy .gap .discard 2 none (some 0))
    (t.line 5).state = .gap ∧ (t.line 5).gapTimer = some 50 ∧ (t.line 5).pin = false ∧
    (u.line 5).state = .pulsing ∧ (u.line 5).widthTimer = some 200 ∧ (u.line 5).pin = true := by decide

set_option maxRecDepth 4000 in
/-- R91, R97, R121: a pulse of one more tick ends before that tick or after it, and at the latest with it: a PULSE taken then
begins a pulse, and the next tick finds the line STATIC whether an expiry was commanded or not. -/
theorem test_pulse_does_not_outlast_its_width :
    let s := busy .pulsing .discard 0 (some 1) none
    let early := after (.widthExpiry 5) s
    (early.line 5).state = .static ∧ early.timebase.time = 0 ∧
    ((after (.outPulse 5) early).line 5).widthTimer = some 200 ∧ ((after (.outPulse 5) early).line 5).collisions = 0 ∧
    ((after .timebaseTick (after (.outPulse 5) early)).line 5).widthTimer = some 200 ∧
    ((after .timebaseTick (after .timebaseTick s)).line 5).state = .static ∧
    (after (.widthExpiry 5) (busy .pulsing .discard 0 (some 2) none)) = busy .pulsing .discard 0 (some 2) none := by
  repeat' apply And.intro
  all_goals rfl

/-- 12 section 12.8: OUT_CLEAR in GAP, and OUT_TOGGLE and OUT_SET in STATIC. -/
theorem test_level_requests :
    ((after (.outClear 5) (busy .gap .discard 2 none (some 30))).line 5).state = .static ∧
    (after (.outClear 5) (busy .gap .discard 2 none (some 30))).engine.detail = 3 ∧
    ((after (.outToggle 3) State.reset).line 3).pin = true ∧ ((after (.outSet 7) State.reset).line 7).pin = true ∧
    (after (.outSet 8) State.reset).engine.detail = 65535 := by decide

/-- R101, R102, R105: the writes of a line and the read of its counter. -/
theorem test_line_accesses :
    ((after (.lineConfigWrite 5 0x0006) (busy .static .defer 0 none none)).line 5).policy = .defer ∧
    ((after (.lineConfigWrite 5 0x0008) (busy .static .defer 0 none none)).line 5).gap = 1 ∧
    ((after (.widthWrite 5 0) (busy .static .defer 0 none none)).line 5).width = 20 ∧
    (after (.collisionCounterRead 5) (busy .static .defer 3 none none)).bus.dataOut = some 3 ∧
    ((after (.collisionCounterRead 5) (busy .static .defer 3 none none)).line 5).collisions = 0 := by decide

/-! ## Triggers (06) -/

/-- TRIG1 of 06 section 6.4.1 at a change to HIGH. -/
def chatter (st : TriggerState) (n : BitVec 8) : State :=
  State.reset.setTrigger 1 { Trigger.reset with
    filter := { level := true, run := 0, fresh := false }, changed := true, edge := .rise, snap := true
    pulseEnable := true, pulseLine := 4, holdoff := 200, state := st, suppressed := n
    timer := if st = .holdoff then some 1500 else none }

/-- 06 section 6.4.1, at 30.0 us: aux is 256 + 2, OUT4 pulses, and a holdoff of 20 us begins. -/
theorem test_trigger_edge :
    let t := after (.triggerLevelChange 1) (chatter .ready 2)
    causes t = [.trigger] ∧ t.journal.ring.map (·.content.aux) = [some 258] ∧ (t.line 4).state = .pulsing ∧
    (t.trigger 1).suppressed = 0 ∧ (t.trigger 1).state = .holdoff ∧ (t.trigger 1).timer = some 2000 := by decide

/-- 06 section 6.4.1, at 5.0 us: an edge in HOLDOFF is counted. -/
theorem test_trigger_holdoff :
    let t := after (.triggerLevelChange 1) (chatter .holdoff 0)
    (t.trigger 1).suppressed = 1 ∧ causes t = [] ∧ (t.trigger 1).timer = some 1500 := by decide

set_option maxRecDepth 4000 in
/-- R108, R111: an edge is over before the next tick, and its record carries the time at its sample point. -/
theorem test_edge_is_taken_before_the_tick :
    let s := (chatter .ready 2).setTrigger 1 { (chatter .ready 2).trigger 1 with sampledAt := 500 }
    let t := after .timebaseTick (s.setTimebase { Timebase.reset with time := 500 })
    t.journal.ring.map (·.content.stamp) = [500] ∧ causes t = [.trigger] ∧ (t.trigger 1).changed = false ∧
    (t.trigger 1).timer = some 1999 ∧ t.timebase.time = 501 := by
  repeat' apply And.intro
  all_goals rfl

set_option maxRecDepth 4000 in
/-- R112: a holdoff that has counted its length is over at the next tick, without a command that says so. -/
theorem test_holdoff_does_not_outlast_its_length :
    let s := State.reset.setTrigger 1 { (chatter .holdoff 0).trigger 1 with timer := some 1, changed := false }
    ((after .timebaseTick s).trigger 1).timer = some 0 ∧
    ((after .timebaseTick (after .timebaseTick s)).trigger 1).state = .ready ∧
    ((after (.holdoffExpiry 1) s).trigger 1).state = .ready := by
  repeat' apply And.intro
  all_goals rfl

/-- R50, R115: until the event of the change is taken the gate is as the old level made it. -/
theorem test_gate_follows_the_event :
    (chatter .ready 0).gateOpen (.onLevel 1 true) = false ∧
    (after (.triggerLevelChange 1) (chatter .ready 0)).gateOpen (.onLevel 1 true) = true ∧
    (after (.triggerLevelChange 1) (chatter .holdoff 0)).gateOpen (.onLevel 1 false) = false := by decide

/-- R112, R114: the expiry of a holdoff, and the two writes. -/
theorem test_trigger_accesses :
    let s := State.reset.setTrigger 1 { (chatter .holdoff 0).trigger 1 with timer := some 0 }
    ((after (.holdoffExpiry 1) s).trigger 1).state = .ready ∧
    ((after (.holdoffWrite 1 7) s).trigger 1).holdoff = 7 ∧
    ((after (.triggerConfigWrite 1 0x0E47) s).trigger 1).edge = .both ∧
    ((after (.triggerConfigWrite 1 0x0E47) s).trigger 1).filterLength = 1 ∧
    ((after (.triggerConfigWrite 1 0x0E47) s).trigger 1).sampleClock = .div8 ∧
    ((after (.triggerConfigWrite 1 0x0E47) s).trigger 1).pulseLine = 3 := by decide

/-- R118: with one axis COUNTING the mask is 4 and one axis is present. -/
theorem test_snapshot :
    let t := after (.snapshot 9) (axisState 2 { Axis.reset with state := .counting })
    t.engine.detail = 4 ∧ t.engine.aux = 1 ∧ causes t = [.snapshot] := by decide

/-! ## Timebase (07) -/

/-- The timebase one tick before the end of a trim interval of 16. -/
def trimming (m : TrimMode) : State :=
  State.reset.setTimebase { Timebase.reset with trimMode := m, intervalCount := 15, time := 0xFFFFFFFFFFFF }

set_option maxRecDepth 4000 in
/-- R121, R122: an ordinary tick, and the adjusted tick of ADD across 2^48. -/
theorem test_ticks :
    (after .timebaseTick State.reset).timebase.time = 1 ∧ (after .timebaseTick (trimming .add)).timebase.time = 1 ∧
    (after .timebaseTick (trimming .add)).timebase.adds = 1 ∧
    (after .timebaseTick (trimming .skip)).timebase.time = 0xFFFFFFFFFFFF := by
  repeat' apply And.intro
  all_goals rfl

set_option maxRecDepth 4000 in
/-- R122: the adjusted tick of SKIP; without a trim there is none. -/
theorem test_adjusted_tick :
    (after .trimAdjustedTick (trimming .skip)).timebase.skips = 1 ∧
    (after .trimAdjustedTick (trimming .skip)).timebase.intervalCount = 0 ∧
    after .trimAdjustedTick State.reset = State.reset := by
  repeat' apply And.intro
  all_goals rfl

/-- R123, R124: the trim mode write takes the staged interval; the counters are cleared by their read. -/
theorem test_trim_accesses :
    let s := State.reset.setTimebase { Timebase.reset with stagedInterval := 15, adds := 5, skips := 6 }
    (after (.trimModeWrite 1) s).timebase.trimMode = .off ∧
    (after (.trimModeWrite 1) State.reset).timebase.trimMode = .add ∧
    (after .addsCounterRead s).bus.dataOut = some 5 ∧ (after .addsCounterRead s).timebase.adds = 0 ∧
    (after .skipsCounterRead s).bus.dataOut = some 6 ∧ (after .skipsCounterRead s).timebase.skips = 0 := by decide

/-- The part ARMED as in 12 section 12.9, at a SYNC edge. -/
def armed (st : SyncState) (m : SyncMode) : State :=
  State.reset.setTimebase { Timebase.reset with
    time := 2200000, loadValue := 3000000, syncState := st, syncMode := m, changed := true
    filter := { level := true, run := 0, fresh := false } }

/-- 12 section 12.9: the armed load. -/
theorem test_armed_load :
    let t := after .syncEdge (armed .armed .off)
    t.timebase.time = 3000000 ∧ t.timebase.syncState = .free ∧ t.interrupts.isSet .syncDone = true ∧
    t.journal.ring.map (·.content) = [{ cause := .sync, stamp := 3000000, value48 := some 2200000 }] ∧
    (t.schedule 3).compareDue = true := by decide

set_option maxRecDepth 4000 in
/-- R121, R126: the armed load of a sample point that is taken before its tick, and that tick. -/
theorem test_armed_load_before_its_tick :
    let s := (armed .armed .off).setTimebase { (armed .armed .off).timebase with
      changed := false, filter := { level := false, run := 2, fresh := false } }
    let t := after .syncEdge (after (.filterSamplePoint (.sync true)) s)
    t.timebase.time = 3000000 ∧ t.journal.ring.map (·.content.value48) = [some 2200000] ∧
    (after .timebaseTick t).timebase.time = 3000001 := by
  repeat' apply And.intro
  all_goals rfl

/-- R128: a capture while FREE. -/
theorem test_sync_capture :
    (after .syncEdge (armed .free .capture)).journal.ring.map (·.content) = [{ cause := .sync, stamp := 2200000 }] ∧
    causes (after .syncEdge (armed .free .off)) = [] ∧
    (after (.syncConfigWrite 3) State.reset).timebase.syncEdge = .fall := by decide

/-- R125, R130: TIME_SET, SYNC_ARM and SYNC_DISARM. -/
theorem test_time_commands :
    let s := withArgs 0xC6C0 0x002D (issued .timeSet 0 (armed .free .off))
    (after (.timeSet 0) s).timebase.time = 3000000 ∧ causes (after (.timeSet 0) s) = [.timeset] ∧
    (after (.syncArm 0) State.reset).timebase.syncState = .armed ∧
    (after (.syncDisarm 0) State.reset).engine.result = .wrongState ∧
    (after (.syncDisarm 0) (armed .armed .off)).engine.detail = 1 := by decide

/-! ## The journal (08) -/

/-- 08 section 8.2.3: the first three offers of the moment, taken in the other order, are admitted in the fixed order. -/
theorem test_crowded_moment :
    let c (k : Cause) : Content := { cause := k, stamp := 7340112 }
    let s := State.reset.setJournal (holding .stop 438 62)
    let t := ((s.offer (.counter 3) (c .phaseErr)).offer (.counter 1) (c .wrap)).offer (.schedule 1) (c .compare)
    (t.journal.ring.drop 62).map (·.content.cause) = [.wrap, .compare] ∧ t.journal.pendingLoss = 1 ∧
    (numbers t).drop 62 = [500, 501] := by decide

/-- R137, R149: a reader action between two records of one moment leaves them in the fixed order. An OPEN opens the record
of the first place, and a DISCARD removes it. -/
theorem test_action_among_the_admissions :
    let s := State.reset.offer (.trigger 0) { cause := .trigger, stamp := 0 }
    let t := (after .readerOpen s).offer (.counter 0) { cause := .wrap, stamp := 0 }
    causes t = [.wrap, .trigger] ∧ t.journal.view.head? = some 8 ∧ t.journal.openedMark = true ∧
    causes ((after .readerDiscard s).offer (.counter 0) { cause := .wrap, stamp := 0 }) = [.trigger] := by decide

/-- 08 section 8.3.1: an admission in OVERWRITE mode before the RELEASE makes the release STALE. -/
theorem test_overwritten_while_open :
    let s := after .readerOpen (State.reset.setJournal (holding .overwrite 1000 64))
    let t := s.offer (.counter 0) { cause := .fault, stamp := 0 }
    t.journal.openedMark = false ∧ t.journal.overwrites = 1 ∧ (numbers t).head? = some 1001 ∧
    (numbers t).getLast? = some 1064 ∧ (after .readerRelease t).journal.lastAccess = .stale := by decide

/-- 12 section 12.7: the RELEASE with two losses pending admits LOSS 264. -/
theorem test_release_with_losses :
    let s := after .readerOpen (State.reset.setJournal { holding .stop 200 64 with pendingLoss := 2 })
    let t := after .readerRelease s
    (numbers t).head? = some 201 ∧ (numbers t).getLast? = some 264 ∧ t.journal.pendingLoss = 0 ∧
    (causes t).getLast? = some .loss ∧ t.journal.lastAccess = .ok := by decide

/-- R147: DISCARD leaves the one LOSS record; an OPEN on an empty journal is EMPTY (R145). -/
theorem test_discard_and_empty :
    causes (after .readerDiscard (State.reset.setJournal { holding .stop 200 64 with pendingLoss := 2 })) = [.loss] ∧
    (after .readerOpen State.reset).journal.lastAccess = .empty ∧
    (after .readerRelease State.reset).journal.lastAccess = .notOpen := by decide

/-- R155 to R157: the configuration writes, and the latch. -/
theorem test_journal_configuration :
    (after (.jcfgWrite 0) State.reset).journal.lastAccess = .cfgRefused ∧
    (after (.jcfgWrite 0x0140) State.reset).journal.mode = .overwrite ∧
    (after (.jcfgWrite 0x0140) State.reset).journal.threshold = 64 ∧
    (after (.jholdWrite 3) State.reset).journal.ageLatch = false ∧
    (after .ageLatchSet (State.reset.setJournal { holding .stop 0 1 with
      holdTime := 3, age := some { count := 3, ticks := 0 } })).journal.ageLatch = true := by decide

/-- The record of 11 section 11.6.7. -/
def gangRecord : Record :=
  { seq := 77, content := {
      cause := .compare, axis := some 2, stamp := 0, position := some 1200, revolution := some 1
      gang := some { positions := #v[some 7, none, some 1200, none] }
      entry := some { slot := 40, tag := 7, remaining := 0 } } }

/-- 11 section 11.6.7: the length 15, the sequence number, and the gang mask 5. -/
theorem test_record_encoding :
    gangRecord.encode.length = 15 ∧ gangRecord.encode[0]? = some 0x07E3 ∧ gangRecord.encode[1]? = some 77 ∧
    gangRecord.encode[8]? = some 5 ∧ gangRecord.encode[9]? = some 7 ∧ gangRecord.encode[13]? = some 0x0728 := by decide

/-- 11 section 11.6.7: reads of the view, and a write of its pointer (R150, R151). -/
theorem test_view :
    let s := State.reset.setJournal { Journal.reset with view := gangRecord.encode, viewPointer := 1 }
    (after .viewDataRead s).bus.dataOut = some 77 ∧ (after .viewDataRead s).journal.viewPointer = 2 ∧
    (after (.viewPointerWrite 32) s).journal.viewPointer = 32 ∧
    (after (.viewPointerWrite 33) s).journal.viewPointer = 1 ∧
    (after .viewDataRead (after (.viewPointerWrite 32) s)).bus.dataOut = some 0 := by decide

/-- R142. -/
theorem test_overwrite_count :
    let s := State.reset.setJournal { Journal.reset with overwrites := 9 }
    (after .overwriteCountRead s).bus.dataOut = some 9 ∧ (after .overwriteCountRead s).journal.overwrites = 0 := by
  decide

/-! ## The command engine, the interrupts and the window (09, 10, 11) -/

/-- 09 section 9.10.1: opcode 0x24 completes with BAD_OPCODE, detail 36; a flush in progress makes an overrun. -/
theorem test_command_write :
    (after (.commandWrite 0x0024) State.reset).engine.result = .badOpcode ∧
    (after (.commandWrite 0x0024) State.reset).engine.detail = 36 ∧
    (after (.commandWrite 0x0011) (after (.schedFlush 0) (jitter 0))).interrupts.isSet .cmdOverrun = true ∧
    (after (.commandWrite 0x0411) State.reset).engine.result = .badArg ∧
    (after (.commandWrite 0x0311) State.reset).engine.phase = .issued := by decide

/-- 09 section 9.10.1: a start that waits is taken and completes. -/
theorem test_axis_start :
    ((after (.axisStart 3) (after (.commandWrite 0x0311) State.reset)).axis 3).state = .counting ∧
    (after (.axisStart 3) (after (.commandWrite 0x0311) State.reset)).interrupts.isSet .cmdDone = true := by decide

/-- R171: CHIP_RESET keeps the filtered level and completes with CMD_DONE. -/
theorem test_chip_reset :
    let t := after (.chipReset 5) (jitter 499)
    (t.axis 0).filterA.level = true ∧ (t.axis 0).position = 0 ∧ t.pool.free.length = 128 ∧ t.interrupts.flags = 1 ∧
    t.engine.opcode = 0x7F ∧ t.engine.result = .ok := by
  repeat' apply And.intro
  all_goals rfl

/-- R127, R172: a sample point of SYNC taken after a CHIP_RESET of its moment acts on the run count 0. -/
theorem test_sync_sample_after_chip_reset :
    let s := (armed .free .off).setTimebase { (armed .free .off).timebase with
      sampleDue := true, filter := { level := false, run := 2, fresh := false } }
    let t := after (.filterSamplePoint (.sync true)) (after (.chipReset 0) s)
    t.timebase.filter = { level := false, run := 1, fresh := false } ∧ t.timebase.sampleDue = false ∧
    t.timebase.changed = false := by
  repeat' apply And.intro
  all_goals rfl

/-- R23, R185: nothing is taken between PIN_RESET and RESETN_RELEASE. -/
theorem test_pin_reset :
    (after (.enableWrite 1) (after .pinReset (jitter 499))).interrupts.enables = 0 ∧
    (after (.enableWrite 1) (after .resetnRelease (after .pinReset (jitter 499)))).interrupts.enables = 1 := by decide

/-- R32, R33, R170: the staging writes. -/
theorem test_staging_writes :
    (after (.stageSelWrite 7) State.reset).engine.stageSel = 7 ∧ (after (.stageSelWrite 8) State.reset).engine.stageSel = 0 ∧
    ((after (.stagedEntryWrite 9 5) State.reset).engine.staged[0]).deadline = 0x000500000000 ∧
    (after (.stagedEntryWrite 0 5) (after (.schedAppend 2) (batch 100))).engine.staged[0] = StagedEntry.reset ∧
    (after (.axisStagingWrite 7 0x0032) State.reset).engine.axisStaging.gateTrigger = 3 := by
  repeat' apply And.intro
  all_goals rfl

/-- R176, R178, R179: clearing one of two flags, and IRQn. -/
theorem test_flags_and_irqn :
    let s := State.reset.setInterrupts { flags := 5, enables := 4 }
    s.irqnLow = true ∧ (after (.flagsWrite 4) s).interrupts.flags = 1 ∧ (after (.flagsWrite 4) s).irqnLow = false ∧
    (after (.enableWrite 0xFFFF) s).interrupts.enables = 0x7FFF := by decide

/-- R186, R187: the captured halves stand while the value moves on. -/
theorem test_low_reads :
    let s := axisState 1 { Axis.reset with position := 0x00010002 }
    let t := (after (.positionLowRead 1) s).setAxis 1 { Axis.reset with position := 0x00020000 }
    t.bus.dataOut = some 2 ∧ Window.present (.axisWindow 1 1) t = 1 ∧
    (after .timeLowRead (armed .free .off)).bus.timeShadow = 2200000 := by decide

/-- R162, R123, R195: ARG3, the high interval half, and the ID location. -/
theorem test_register_writes :
    (after (.registerWrite 0x0B 9) State.reset).engine.args[3] = 9 ∧
    (after (.registerWrite 0x66 1) State.reset).timebase.stagedInterval = 0x00010010 ∧
    after (.registerWrite 0x00 9) State.reset = State.reset ∧
    (Window.readAt 0x00 State.reset).bus.dataOut = some 0x3B41 ∧
    (Window.readAt 0x6A State.reset).bus.dataOut = some 0 := by
  repeat' apply And.intro
  all_goals rfl

/-- R183: a read is taken when RDn falls, a write when WRn rises; after reset a strobe that is already low takes none
(R185). -/
theorem test_bus_strobes :
    let p (rdn wrn : Bool) : BusPins :=
      { csn := false, rdn := rdn, wrn := wrn, resetn := true, address := 0x04, data := 0x0011 }
    BusPhase.next .idle (p false true) = (.reading, [.read 0x04]) ∧
    BusPhase.next .idle (p true false) = (.writing, []) ∧
    BusPhase.next .writing (p true true) = (.idle, [.write 0x04 0x0011]) ∧
    BusPhase.next (.afterReset false true) (p false true) = (.afterReset false true, []) ∧
    (Access.write 0x04 0x0011).command = some (.commandWrite 0x0011) := by decide

/-! ## States that meet the hypotheses of the statements

Each theorem below is named after the statement of Certificates/Slice0/Obligations.lean whose hypotheses it meets, clause by
clause, at the boundary values of the clause. -/

/-- A command that has been issued to the part after reset waits. -/
theorem issued_waits (c : Command) (u : UnitNo) (s : State) (h : s.inReset = false) : (issued c u s).Waits c u :=
  ⟨h, rfl, rfl, rfl⟩

/-- A command of another kind executes. -/
def flushing (total : Nat) (s : State) : State :=
  { s with engine := { s.engine with phase := .flushing total, opcode := 0x03, unit := 0 } }

/-- A part whose schedule 0 holds the slots 126 and 127 and whose axis 0 is about to step onto the target of its head. -/
def loaded : State :=
  let s := axisState 0 (counting (pair false false) (pair true false) 499 Axis.reset)
  { s with
    schedules := s.schedules.set 0 { Schedule.reset with list := (List.finRange 128).drop 126 }
    pool := { free := (List.finRange 128).take 126
              entries := (s.pool.entries.set 126
                { Entry.blank with target := 500, op := .pulse, record := .gang, count := 2, stride := 10, remaining := 2 }).set
                127 { Entry.blank with target := 510, remaining := 1 } }
    pending := [.decoderEvaluation { axis := 0 }] }

theorem loaded_list : (loaded.schedule 0).list = [126, 127] := rfl

theorem loaded_poolSound : loaded.PoolSound := by
  have h : loaded.allSlots = List.finRange 128 := by
    show List.take 126 (List.finRange 128) ++ (List.drop 126 (List.finRange 128) ++ []) = _
    rw [List.append_nil, List.take_append_drop]
  refine ⟨?_, ?_, ?_⟩
  · rw [h]; exact List.nodup_finRange 128
  · rw [h, List.length_finRange]
  · intro p hp; cases hp

/-- An append in progress as in 02 section 2.6.1, three entries to come. -/
def appending (left : Nat) : State :=
  let s := batch 100
  s.setEngine { s.engine with
    phase := .appending { next := 7 - left, left := left, first := if left = 3 then none else some 40 } }

theorem witness_EveryCommandAnswersANextState :
    loaded.PoolSound ∧ (∀ t, exec .appendStep ((appending 3).setPool { (appending 3).pool with free := [] }) ≠ .next t) :=
  ⟨loaded_poolSound, fun _ h => by cases h⟩

theorem witness_PinResetGivesEveryResetValue :
    (after .pinReset loaded).inReset = true ∧ Instr.timebaseTick ≠ .pinReset ∧ Instr.timebaseTick ≠ .resetnRelease := by
  decide

theorem witness_ChipResetTakesTheWholePart :
    loaded.Idle ∧ (issued .chipReset 15 loaded).Waits .chipReset 15 ∧
    ((flushing 1 loaded).inReset = false ∧ (flushing 1 loaded).engine.phase ≠ .idle ∧
      ¬ (flushing 1 loaded).Waits .chipReset 15) :=
  ⟨⟨rfl, rfl⟩, issued_waits _ _ _ rfl, rfl, by decide, fun h => by cases h.2.1⟩

theorem witness_CommandWriteStoresChecksAndIssues :
    State.reset.engine.phase = .idle ∧ (flushing 1 loaded).engine.phase ≠ .idle ∧
    (Command.axisStart.code = (0x0311 : Halfword).extractLsb' 0 8 ∧ ((0x0311 : Halfword).extractLsb' 8 4).toNat = 3 ∧
      Command.axisStart.units = 4 ∧ ((0x0411 : Halfword).extractLsb' 8 4).toNat = 4) ∧
    (Command.outSet.code = (0x0720 : Halfword).extractLsb' 0 8 ∧ ((0x0720 : Halfword).extractLsb' 8 4).toNat = 7 ∧
      Command.outSet.units = 8 ∧ ((0x0820 : Halfword).extractLsb' 8 4).toNat = 8) ∧
    (Command.snapshot.code = (0x0F40 : Halfword).extractLsb' 0 8 ∧ ((0x0F40 : Halfword).extractLsb' 8 4).toNat = 15 ∧
      Command.snapshot.units = 16) ∧
    ∀ c : Command, c.code ≠ (0x0024 : Halfword).extractLsb' 0 8 := by
  refine ⟨rfl, by decide, by decide, by decide, by decide, ?_⟩
  intro c; cases c <;> decide

theorem witness_CommandDuringExecutionIsAnOverrun :
    (flushing 1 loaded).inReset = false ∧ (flushing 1 loaded).engine.phase ≠ .idle ∧
    ¬ (flushing 1 loaded).Waits .axisStart 0 ∧
    (issued .axisStart 0 loaded).engine.phase ≠ .idle ∧ ¬ (issued .axisStart 0 loaded).Waits .axisStart 1 :=
  ⟨rfl, by decide, fun h => (by cases h.2.1), by decide, fun h => absurd h.2.2.2 (by decide)⟩

theorem witness_CommandRowIsItsWriteAndItsEvent :
    loaded.Idle ∧ (3 : UnitNo).toNat < Command.axisStart.units ∧ Command.axisStart.units ≤ (4 : UnitNo).toNat := by
  exact ⟨⟨rfl, rfl⟩, by decide, by decide⟩

theorem witness_ResultChangesOnlyAtACompletion :
    (∃ t, exec (.homeCancel 0) State.reset = .next t ∧ t.engine.result ≠ State.reset.engine.result ∧
      t.engine.result ≠ .ok) ∧
    ∃ t, exec (.axisStart 0) (issued .axisStart 0 State.reset) = .next t ∧
      (issued .axisStart 0 State.reset).engine.phase ≠ .idle ∧ t.engine.phase = .idle :=
  ⟨⟨_, rfl, by decide, by decide⟩, ⟨_, rfl, by decide, by decide⟩⟩

theorem witness_StagingWritesAreStoredOrLocked :
    State.reset.inReset = false ∧ (∀ p, State.reset.engine.phase ≠ .appending p) ∧ (7 : Halfword).toNat < 8 ∧
    8 ≤ (8 : Halfword).toNat ∧ (∃ p, (appending 3).engine.phase = .appending p) ∧ (appending 3).inReset = false ∧
    State.reset.engine.phase = .idle ∧ (issued .axisStart 0 State.reset).engine.opcode ≠ 0x10 ∧
    (issued .axisConfig 0 State.reset).engine.phase ≠ .idle ∧ (issued .axisConfig 0 State.reset).engine.opcode = 0x10 :=
  ⟨rfl, fun p h => (by cases h), by decide, by decide, ⟨_, rfl⟩, rfl, rfl, by decide, by decide, rfl⟩

/-- A part with every sample point due. -/
def sampling : State :=
  let d : Divider := { count := 0, due := true }
  { State.reset with axes := State.reset.axes.set 3 { Axis.reset with divider := d }
                     triggers := State.reset.triggers.set 3 { Trigger.reset with divider := d }
                     timebase := { Timebase.reset with sampleDue := true } }

/-- The hypotheses of every clause, and a trigger whose filter has a level and no change outstanding. -/
theorem witness_SamplePointFeedsTheFilters :
    let f (n : Nat) (b : Bool) : Filter := { level := false, run := n, fresh := b }
    ((f 0 false).fresh = false ∧ (f 0 false).run ≤ 0) ∧ ((f 15 false).fresh = false ∧ (f 15 false).run ≤ 15) ∧
    (f 0 true).fresh = true ∧ sampling.inReset = false ∧
    (sampling.axis 3).divider.due = true ∧ (sampling.axis 2).divider.due = false ∧
    (sampling.trigger 3).divider.due = true ∧ (sampling.trigger 2).divider.due = false ∧
    sampling.timebase.sampleDue = true ∧ State.reset.timebase.sampleDue = false ∧
    (let s := (chatter .ready 0).setTrigger 1 { (chatter .ready 0).trigger 1 with changed := false }
     s.inReset = false ∧ (s.trigger 1).filter.fresh = false ∧ (s.trigger 1).changed = false) := by decide

theorem witness_DecodeModesCountTheirTables :
    ((pair false false).a ≠ (pair true false).a ∧ (pair false false).b = (pair true false).b) ∧
    ((pair false false).a = (pair false true).a ∧ (pair false false).b ≠ (pair false true).b) ∧
    ((pair false false).a ≠ (pair true true).a ∧ (pair false false).b ≠ (pair true true).b) := by decide

/-- An axis 1 that counts in a mode, at a pair. -/
def inMode (m : DecodeMode) (old new : LinePair) : State :=
  axisState 1 { counting old new 0 Axis.reset with config := { AxisConfig.reset with decodeMode := m } }

theorem witness_EvaluationWithoutAStepTakesThePairAlone :
    (State.reset.axis 1).state ≠ .counting ∧
    ((inMode .quadX4 (pair true true) (pair true true)).axis 1).filtered =
      ((inMode .quadX4 (pair true true) (pair true true)).axis 1).phase ∧
    (let s := inMode .quadX2 (pair false false) (pair false true)
     s.inReset = false ∧ (s.axis 1).state = .counting ∧ (s.axis 1).filtered ≠ (s.axis 1).phase ∧
       decode (s.axis 1).config.decodeMode (s.axis 1).phase (s.axis 1).filtered = .noStep) ∧
    (let s := inMode .upDown (pair false false) (pair true true)
     (s.axis 1).state = .counting ∧ (s.axis 1).filtered ≠ (s.axis 1).phase ∧
       decode (s.axis 1).config.decodeMode (s.axis 1).phase (s.axis 1).filtered = .cancelled) := by decide

theorem witness_PhaseErrorCountsAndFaultsAtTheThreshold :
    let s (threshold : BitVec 8) (n : BitVec 8) := axisState 1 { counting (pair false false) (pair true true) 0 Axis.reset with
      config := { AxisConfig.reset with faultThreshold := threshold }, errorSince := n }
    (s 1 0).inReset = false ∧ ((s 1 0).axis 1).state = .counting ∧
    decode ((s 1 0).axis 1).config.decodeMode ((s 1 0).axis 1).phase ((s 1 0).axis 1).filtered = .phaseError ∧
    (((s 1 0).axis 1).config.faultThreshold ≠ 0 ∧
      ((s 1 0).axis 1).errorSince.toNat + 1 = ((s 1 0).axis 1).config.faultThreshold.toNat) ∧
    ((s 255 254).axis 1).errorSince.toNat + 1 = ((s 255 254).axis 1).config.faultThreshold.toNat ∧
    ¬ ((s 0 255).axis 1).config.faultThreshold ≠ 0 := by decide

/-- An axis 1 about to step: its range, its position, its pairs. -/
def stepping (r : Machine.Range) (old new : LinePair) (position : BitVec 32) : State :=
  axisState 1 { counting old new position Axis.reset with
    config := { AxisConfig.reset with range := r, modulus := 3600, invert := old.a } }

theorem stepping_steps :
    (∀ r p, (stepping r (pair false false) (pair true false) p).Steps 1 .forward) ∧
    ∀ r p, (stepping r (pair true false) (pair true true) p).Steps 1 .reverse := by
  exact ⟨fun _ _ => ⟨rfl, rfl, fun h => (by cases h), rfl⟩, fun _ _ => ⟨rfl, rfl, fun h => (by cases h), rfl⟩⟩

/-- At both ends of both ranges, and at a head whose target the step does not reach. -/
theorem witness_StepMovesThePositionByOne :
    (∀ (d : Direction) (p : BitVec 32), (p = 0x7FFFFFFF ∧ d = .forward ∨ p = 0x80000000 ∧ d = .reverse) →
      ∃ s : State, s.Steps 1 d ∧ (s.axis 1).PositionSound ∧ (s.axis 1).config.range = .linear ∧ (s.axis 1).position = p) ∧
    (∀ (d : Direction) (p : BitVec 32), (p = 3599 ∧ d = .forward ∨ p = 0 ∧ d = .reverse) →
      ∃ s : State, s.Steps 1 d ∧ (s.axis 1).PositionSound ∧ (s.axis 1).config.range = .rotary ∧ (s.axis 1).position = p) ∧
    ((jitter 498).Steps 0 .forward ∧ (jitter 498).Live 0 12 ∧ ((jitter 498).entry 12).target ≠ 499) ∧
    (let s := (jitter 499).setAxis 0 { (jitter 499).axis 0 with
       config := { AxisConfig.reset with invert := true }, position := 501 }
     s.Steps 0 .reverse ∧ s.Live 0 12 ∧ (s.entry 12).target = 500 ∧ (s.entry 12).qualifier ≠ .any ∧
       (s.entry 12).qualifier ≠ .reverse) := by
  refine ⟨?_, ?_, ⟨⟨rfl, rfl, by decide, rfl⟩, ⟨rfl, rfl, rfl, rfl, trivial⟩, by decide⟩,
    ⟨rfl, rfl, by decide, rfl⟩, ⟨rfl, rfl, rfl, rfl, trivial⟩, by decide, by decide, by decide⟩
  · rintro d p (⟨rfl, rfl⟩ | ⟨rfl, rfl⟩)
    · refine ⟨_, stepping_steps.1 .linear _, ⟨?_, ?_, ?_⟩, rfl, rfl⟩
      · intro h; cases h
      · intro h; cases h
      · intro _; rfl
    · refine ⟨_, stepping_steps.2 .linear _, ⟨?_, ?_, ?_⟩, rfl, rfl⟩
      · intro h; cases h
      · intro h; cases h
      · intro _; rfl
  · rintro d p (⟨rfl, rfl⟩ | ⟨rfl, rfl⟩)
    · refine ⟨_, stepping_steps.1 .rotary _, ⟨?_, ?_, ?_⟩, rfl, rfl⟩
      · intro _; decide
      · intro _; decide
      · intro h; cases h
    · refine ⟨_, stepping_steps.2 .rotary _, ⟨?_, ?_, ?_⟩, rfl, rfl⟩
      · intro _; decide
      · intro _; decide
      · intro h; cases h

theorem linear_positionSound (x : Axis) (h : x.config.range = .linear) (hr : x.revolution = 0) : x.PositionSound :=
  ⟨fun g => (by rw [h] at g; cases g), fun g => (by rw [h] at g; cases g), fun _ => hr⟩

theorem loaded_steps : loaded.Steps 0 .forward := ⟨rfl, rfl, by decide, rfl⟩

/-- The state of `loaded` with a train of another remaining count, and with one entry alone. -/
def lastFire (alone : Bool) : State :=
  let s := (jitter 499).setEntry 12 { (jitter 499).entry 12 with remaining := 1 }
  if alone then s.setSchedule 0 { s.schedule 0 with list := [12] } else s

/-- A head that stays, a head that retires with another behind it, and one that retires alone; and a head on a rotary
axis. -/
theorem witness_StepThatFiresItsHead :
    (loaded.Steps 0 .forward ∧ (loaded.axis 0).PositionSound ∧ loaded.Live 0 126 ∧
      (loaded.schedule 0).list = 126 :: [127] ∧ (loaded.entry 126).ValidFor (loaded.axis 0).config ∧
      (loaded.axis 0).Reaches .forward (loaded.entry 126).target ∧ (loaded.entry 126).qualifier = .any ∧
      (loaded.entry 126).remaining ≠ 1) ∧
    (∀ alone, (lastFire alone).Steps 0 .forward ∧ ((lastFire alone).axis 0).PositionSound ∧ (lastFire alone).Live 0 12 ∧
      (lastFire alone).schedule 0 = { Schedule.reset with list := 12 :: (if alone then [] else [13]) } ∧
      ((lastFire alone).entry 12).ValidFor ((lastFire alone).axis 0).config ∧
      ((lastFire alone).axis 0).Reaches .forward ((lastFire alone).entry 12).target ∧
      ((lastFire alone).entry 12).qualifier = .forward ∧ ((lastFire alone).entry 12).remaining = 1) ∧
    (let s := fed 1 [(5, { Entry.blank with target := 3599, count := 2, stride := 3599, remaining := 2 })]
       (stepping .rotary (pair true false) (pair true true) 0)
     s.Steps 1 .reverse ∧ (s.axis 1).PositionSound ∧ s.Live 1 5 ∧ (s.entry 5).ValidFor (s.axis 1).config ∧
       (s.axis 1).Reaches .reverse (s.entry 5).target) := by
  refine ⟨⟨loaded_steps, linear_positionSound _ rfl rfl, ⟨rfl, rfl, rfl, rfl, trivial⟩, rfl, ?_, by show _ = _; decide, rfl,
    by decide⟩, ?_, ⟨rfl, rfl, by decide, rfl⟩, ⟨?_, ?_, ?_⟩, ⟨rfl, rfl, rfl, rfl, trivial⟩, ?_, by show _ = _; decide⟩
  · refine ⟨by decide, by decide, fun _ => by decide, fun h => (by cases h), fun _ => ⟨by decide, fun h => (by cases h)⟩⟩
  · intro alone
    refine ⟨⟨?_, ?_, ?_, ?_⟩, linear_positionSound _ ?_ ?_, ⟨?_, ?_, ?_, ?_, ?_⟩, ?_, ?_, ?_, ?_, ?_⟩ <;> cases alone
    all_goals first
      | rfl
      | trivial
  · intro _; decide
  · intro _; decide
  · intro h; cases h
  · exact ⟨by decide, by decide, fun h => absurd rfl h, fun _ => by decide, fun _ => ⟨by decide, fun _ => by decide⟩⟩

/-- A command that falls together with no tick takes its own event. -/
theorem takesItsOwnEvent (c : Instr) (s : State) (h : c ≠ .timebaseTick ∧ c ≠ .trimAdjustedTick) (hr : s.reached c = none) :
    s.TakesItsOwnEvent c := by
  rintro (rfl | rfl | g)
  · exact absurd rfl h.1
  · exact absurd rfl h.2
  · rw [hr] at g; cases g.1

/-- A part on which nothing is outstanding. -/
theorem reset_settled : State.reset.Settled := by
  refine ⟨?_, fun _ => ⟨?_, ?_, ?_⟩⟩
  · show (∀ n : Fin 4, _) ∧ (∀ n : Fin 4, _) ∧ _
    decide
  · show ∀ n : Fin 4, _
    decide
  · show ∀ n : Fin 8, _
    decide
  · decide

theorem witness_HeadFiresOnlyAtAStepOntoItsTarget :
    loaded.PoolSound ∧ loaded.TakesItsOwnEvent (.decoderEvaluation { axis := 0 }) ∧ State.reset.TakesItsOwnEvent .timebaseTick ∧
    (loaded.schedule 0).list.head? = some 126 ∧
    ∃ t, exec (.decoderEvaluation { axis := 0 }) loaded = .next t ∧ t.entry 126 ≠ loaded.entry 126 :=
  ⟨loaded_poolSound, takesItsOwnEvent _ _ (by decide) rfl, fun _ => reset_settled, rfl, _, rfl, by decide⟩

/-- The axis states that the commands of the axis ask for, each with its command waiting. -/
theorem witness_StartResumeStopAndClearErrors :
    ∀ x ∈ [AxisState.stopped, .counting, .faulted], ∀ c ∈ [Command.axisStart, .axisResume, .axisStop, .axisClrerr],
      (issued c 3 (axisState 3 { Axis.reset with state := x })).Waits c (unitOfAxis 3) ∧
      ((issued c 3 (axisState 3 { Axis.reset with state := x })).axis 3).state = x := by
  intro x _ c _
  exact ⟨⟨rfl, rfl, rfl, rfl⟩, rfl⟩

theorem witness_SetposLoadsThePosition :
    let s (r : Machine.Range) (lo hi : Halfword) := withArgs lo hi (issued .axisSetpos 1 (stepping r (pair false false) (pair true false) 0))
    (∀ r lo hi, (s r lo hi).Waits .axisSetpos (unitOfAxis 1) ∧ ((s r lo hi).axis 1).config.range = r) ∧
    (let v (lo hi : Halfword) : BitVec 32 := (s .rotary lo hi).engine.argCopy[1] ++ (s .rotary lo hi).engine.argCopy[0]
     (v 0 0).toInt = 0 ∧ (v 3599 0).toInt = 3599 ∧ (v 3600 0).toInt = 3600 ∧ (v 0xFFFF 0xFFFF).toInt = -1 ∧
       ((s .rotary 0 0).axis 1).config.modulus.toNat = 3600) := by
  refine ⟨fun r lo hi => ⟨⟨rfl, rfl, rfl, rfl⟩, rfl⟩, by decide⟩

/-- The part with an AXIS_CONFIG of axis 1 waiting on a staging record. -/
def configuring (r : AxisStaging) (s : State) : State :=
  issued .axisConfig 1 (s.setEngine { s.engine with axisStaging := r })

/-- Ready and not ready; a record that fails at each end of a field, and records that pass at the limits. -/
theorem witness_ConfigJudgesTheRecordThenCopiesIt :
    let r := { AxisStaging.reset with range := 1, modulus := 2, reference := 1, quota := 128 }
    (∀ q, (configuring q State.reset).Waits .axisConfig (unitOfAxis 1) ∧ ((configuring q State.reset).axis 1).state = .stopped ∧
      ((configuring q State.reset).schedule 1).list = [] ∧ ((configuring q State.reset).schedule 1).draining = false) ∧
    (configuring r (axisState 1 { Axis.reset with state := .faulted })).Waits .axisConfig (unitOfAxis 1) ∧
    ((configuring r (axisState 1 { Axis.reset with state := .faulted })).axis 1).state ≠ .stopped ∧
    (5 ≤ ({ r with decodeMode := 5 }).decodeMode.toNat ∧ 2 ≤ ({ r with range := 2 }).range.toNat ∧
      ({ r with modulus := 1 }).modulus.toNat < 2 ∧ 16777216 < ({ r with modulus := 16777217 }).modulus.toNat ∧
      ({ r with gatePhase := 3 }).gatePhase.toNat = 3 ∧ ({ r with indexDirection := 3 }).indexDirection.toNat = 3 ∧
      (r.modulus.toNat : Int) ≤ ({ r with reference := 2 }).reference.toInt ∧ ({ r with reference := -1 }).reference.toInt < 0 ∧
      ({ r with quota := 0 }).quota.toNat = 0 ∧ 128 < ({ r with quota := 129 }).quota.toNat ∧
      ({ r with gateKind := 3 }).gateKind.toNat = 3 ∧ 4 ≤ ({ r with gateKind := 1, gateTrigger := 4 }).gateTrigger.toNat) ∧
    r.firstBad = none ∧ { r with modulus := 16777216, reference := 16777215 }.firstBad = none ∧
    AxisStaging.reset.firstBad = none := by
  refine ⟨fun q => ⟨⟨rfl, rfl, rfl, rfl⟩, rfl, rfl, rfl⟩, ⟨rfl, rfl, rfl, rfl⟩, by decide, by decide, by decide, by decide,
    by decide⟩

theorem witness_AxisResetReturnsOneAxis : (issued .axisReset 0 loaded).Waits .axisReset (unitOfAxis 0) :=
  ⟨rfl, rfl, rfl, rfl⟩

theorem witness_AxisAndHomingStatesChangeOnlyByTheirEvents :
    (∀ s : State, s.TakesItsOwnEvent (.decoderEvaluation { axis := 1 }) ∧ s.TakesItsOwnEvent (.indexEdge { axis := 0 })) ∧
    (∃ t, exec (.decoderEvaluation { axis := 1 }) (faulting (pair true false) (pair false true) 101 2) = .next t ∧
      (t.axis 1).state ≠ ((faulting (pair true false) (pair false true) 101 2).axis 1).state) ∧
    ∃ t, exec (.indexEdge { axis := 0 }) (homing .forward .seeking 4095) = .next t ∧
      (t.axis 0).homing ≠ ((homing .forward .seeking 4095).axis 0).homing :=
  ⟨fun _ => ⟨takesItsOwnEvent _ _ (by decide) rfl, takesItsOwnEvent _ _ (by decide) rfl⟩, ⟨_, rfl, by decide⟩, ⟨_, rfl, by decide⟩⟩

theorem witness_PositionChangesOnlyByAStepOrALoad :
    (∀ s : State, s.TakesItsOwnEvent (.decoderEvaluation { axis := 0 }) ∧ s.TakesItsOwnEvent (.indexEdge { axis := 0 })) ∧
    (∃ t, exec (.decoderEvaluation { axis := 0 }) loaded = .next t ∧ (t.axis 0).position ≠ (loaded.axis 0).position) ∧
    ∃ t, exec (.indexEdge { axis := 0 }) (homing .forward .seeking 4095) = .next t ∧
      (t.axis 0).position ≠ ((homing .forward .seeking 4095).axis 0).position :=
  ⟨fun _ => ⟨takesItsOwnEvent _ _ (by decide) rfl, takesItsOwnEvent _ _ (by decide) rfl⟩, ⟨_, rfl, by decide⟩, ⟨_, rfl, by decide⟩⟩

/-- An append of axis 2 that waits with its two arguments. -/
def appendArgs (first count : Halfword) : State := withArgs first count (batch 100)

/-- Every branch of R40 at the limits of its arguments, with the entries of `batch`: S4 to S6 pass or S6 fails check 6. -/
theorem witness_AppendIsJudgedInOrder :
    (∀ first count, (appendArgs first count).Waits .schedAppend (unitOfAxis 2)) ∧
    7 < ((appendArgs 8 1).engine.argCopy[0]).toNat ∧
    (((appendArgs 7 2).engine.argCopy[0]).toNat ≤ 7 ∧
      8 < ((appendArgs 7 2).engine.argCopy[0]).toNat + ((appendArgs 7 2).engine.argCopy[1]).toNat) ∧
    ((appendArgs 0 0).engine.argCopy[1]).toNat = 0 ∧ 8 < ((appendArgs 0 9).engine.argCopy[1]).toNat ∧
    ((appendArgs 0 8).engine.argCopy[0]).toNat + ((appendArgs 0 8).engine.argCopy[1]).toNat ≤ 8 ∧
    ((batch 3600).Waits .schedAppend (unitOfAxis 2) ∧
      ((batch 3600).engine.staged[(6 : Fin 8)]).firstBad ((batch 3600).axis 2).config = some 6 ∧
      ((batch 3600).engine.staged[(5 : Fin 8)]).firstBad ((batch 3600).axis 2).config = none ∧
      ((batch 3600).engine.staged[(4 : Fin 8)]).firstBad ((batch 3600).axis 2).config = none) ∧
    ((batch 100).engine.staged[(6 : Fin 8)]).firstBad ((batch 100).axis 2).config = none ∧
    (let s := (batch 100).setAxis 2 { (batch 100).axis 2 with
       config := { ((batch 100).axis 2).config with quota := 2 } }
     s.Waits .schedAppend (unitOfAxis 2) ∧ (s.axis 2).config.quota.toNat < (s.schedule 2).list.length + 3) ∧
    (((batch 100).axis 2).config.quota.toNat ≥ ((batch 100).schedule 2).list.length + 3 ∧
      3 ≤ (batch 100).pool.free.length) ∧
    (let s := (batch 100).setPool { (batch 100).pool with free := [40, 41] }
     s.Waits .schedAppend (unitOfAxis 2) ∧ s.pool.free.length < 3) := by
  refine ⟨fun _ _ => ⟨rfl, rfl, rfl, rfl⟩, by decide, by decide, by decide, by decide, by decide,
    ⟨⟨rfl, rfl, rfl, rfl⟩, by decide, by decide, by decide⟩, by decide, ⟨⟨rfl, rfl, rfl, rfl⟩, by decide⟩, by decide,
    ⟨rfl, rfl, rfl, rfl⟩, by decide⟩

theorem appending_valid : ∀ i : Fin 8, 4 ≤ i.val → i.val < 7 →
    ((appending 3).engine.staged[i]).firstBad ((appending 3).axis 2).config = none := by decide

theorem appending_batchValid (left : Nat) (h : left ≤ 3) : (appending left).BatchValid := by
  intro p hp i
  have : p = { next := 7 - left, left := left, first := if left = 3 then none else some 40 } := by
    injection hp with hp; exact hp.symm
  subst this
  intro h1 h2
  exact appending_valid i (by simp at h1; omega) (by simp at h2; omega)

/-- The first step of a batch and the last, and no step to take. -/
theorem witness_AppendStepMovesOneSlot :
    (∀ left, 1 ≤ left → left ≤ 3 → (appending left).inReset = false ∧ (appending left).engine.unit = unitOfAxis 2 ∧
      (∃ p, (appending left).engine.phase = .appending p ∧ 1 ≤ p.left ∧ p.next ≤ 6) ∧
      (appending left).pool.free = 40 :: [41, 42, 43] ∧ (appending left).BatchValid) ∧
    (∀ p, (appending 0).engine.phase = .appending p → p.left = 0) ∧ ∀ p, loaded.engine.phase = .appending p → p.left = 0 := by
  refine ⟨fun left h1 h3 => ⟨rfl, rfl, ⟨_, rfl, h1, ?_⟩, rfl, appending_batchValid left h3⟩, ?_, ?_⟩
  · show 7 - left ≤ 6; omega
  · intro p h; cases h; rfl
  · intro p h; cases h

theorem witness_SteppedCommandsCompleteAfterTheirLastStep :
    (∀ left ∈ [0, 2], (appending left).inReset = false ∧ (appending left).engine.unit = unitOfAxis 2 ∧
      ∃ p, (appending left).engine.phase = .appending p ∧ p.first = some 40 ∧ p.left = left) ∧
    (∀ total, (flushing total State.reset).engine.phase = .flushing total ∧
      (flushing total State.reset).engine.unit = unitOfAxis 0 ∧ ((flushing total State.reset).schedule 0).list = []) ∧
    ((flushing 2 loaded).schedule 0).list ≠ [] := by
  refine ⟨?_, fun _ => ⟨rfl, rfl, rfl⟩, by decide⟩
  intro left h
  simp only [List.mem_cons, List.not_mem_nil, or_false] at h
  rcases h with rfl | rfl
  · exact ⟨rfl, rfl, _, rfl, rfl, rfl⟩
  · exact ⟨rfl, rfl, _, rfl, rfl, rfl⟩

theorem witness_HoldRunAndSkip :
    (∀ c ∈ [Command.schedHold, .schedRun, .schedSkip], (issued c 0 loaded).Waits c (unitOfAxis 0)) ∧
    ((issued .schedSkip 0 loaded).schedule 0).list = 126 :: [127] ∧
    (issued .schedSkip 0 State.reset).Waits .schedSkip (unitOfAxis 0) ∧
    ((issued .schedSkip 0 State.reset).schedule 0).list = [] :=
  ⟨fun _ _ => ⟨rfl, rfl, rfl, rfl⟩, rfl, ⟨rfl, rfl, rfl, rfl⟩, rfl⟩

theorem witness_FlushDrainsOldestFirst :
    (issued .schedFlush 0 State.reset).Waits .schedFlush (unitOfAxis 0) ∧
    ((issued .schedFlush 0 State.reset).schedule 0).list = [] ∧
    (issued .schedFlush 0 loaded).Waits .schedFlush (unitOfAxis 0) ∧ ((issued .schedFlush 0 loaded).schedule 0).list ≠ [] ∧
    ((flushing 2 loaded).inReset = false ∧ (flushing 2 loaded).engine.unit = unitOfAxis 0 ∧
      (flushing 2 loaded).engine.phase = .flushing 2 ∧ ((flushing 2 loaded).schedule 0).list = 126 :: [127]) ∧
    ∀ total, loaded.engine.phase ≠ .flushing total :=
  ⟨⟨rfl, rfl, rfl, rfl⟩, rfl, ⟨rfl, rfl, rfl, rfl⟩, by decide, ⟨rfl, rfl, rfl, rfl⟩, fun _ h => by cases h⟩

/-- A comparison taken up with a deadline of 0 at the times 0 and above it, with one beyond the time, and none taken up. -/
theorem witness_DeadlineComparisonExpiresTheHead :
    (State.reset.schedule 0).compareDue = false ∧
    (expiring.inReset = false ∧ (expiring.schedule 0).compareDue = true ∧ (expiring.schedule 0).list = 1 :: [] ∧
      (expiring.entry 1).deadlinePresent = true ∧ (expiring.schedule 0).draining = false ∧
      (expiring.axis 0).state ≠ .faulted ∧ (expiring.entry 1).deadline.toNat = expiring.timebase.time.toNat) ∧
    (let s := expiring.setEntry 1 { expiring.entry 1 with deadline := 1 }
     (s.schedule 0).compareDue = true ∧ ¬ (s.entry 1).deadline.toNat ≤ s.timebase.time.toNat) ∧
    (let s := expiring.setAxis 0 { expiring.axis 0 with state := .faulted }
     (s.schedule 0).compareDue = true ∧ ¬ (s.axis 0).state ≠ .faulted) := by decide

theorem witness_IndexEdgeQualifiesAndHomes :
    (State.reset.axis 0).zChanged = false ∧
    (∀ h ∈ [Homing.unreferenced, .seeking, .referenced],
      let x := (homing .forward h 4095).axis 0
      x.zChanged = true ∧ x.homing = h ∧ x.state = .counting ∧ (x.filterZ.level = true ∧ x.config.indexPolarity = .highGoing) ∧
        x.config.gatePhase = some { a := x.filterA.level, b := x.filterB.level } ∧ x.config.indexDirection = .forward ∧
        x.direction = .forward) ∧
    (let x := (homing .reverse .seeking 0).axis 0
     x.zChanged = true ∧ x.config.indexDirection ≠ .any ∧ x.config.indexDirection ≠ .reverse ∧ x.direction = .reverse) := by
  decide

theorem witness_HomeArmAndCancel :
    ∀ h ∈ [Homing.unreferenced, .seeking, .referenced], ∀ c ∈ [Command.homeArm, .homeCancel],
      (issued c 0 (homing .forward h 0)).Waits c (unitOfAxis 0) ∧ ((issued c 0 (homing .forward h 0)).axis 0).homing = h :=
  fun _ _ _ _ => ⟨⟨rfl, rfl, rfl, rfl⟩, rfl⟩

theorem witness_LevelRequestsSetTheStaticLevel :
    ∀ c ∈ [Command.outSet, .outClear, .outToggle], (issued c 7 State.reset).Waits c (unitOfLine 7) :=
  fun _ _ => ⟨rfl, rfl, rfl, rfl⟩

theorem witness_PulseRequestStartsOrCollides :
    ∀ st ∈ [LineState.static, .pulsing, .deferred, .gap], ∀ p ∈ [CollisionPolicy.restart, .discard, .defer],
      (issued .outPulse 5 (busy st p 65535 none none)).Waits .outPulse (unitOfLine 5) ∧
      ((issued .outPulse 5 (busy st p 65535 none none)).line 5).state = st ∧
      ((issued .outPulse 5 (busy st p 65535 none none)).line 5).policy = p :=
  fun _ _ _ _ => ⟨⟨rfl, rfl, rfl, rfl⟩, rfl, rfl⟩

/-- Each timer just expired and one tick before, in the states in which it runs. -/
theorem witness_TimersOfALineExpire :
    (∀ st ∈ [LineState.pulsing, .deferred], ∀ k ∈ [0, 1], ((busy st .defer 0 (some k) none).line 5).Sound ∧
      ((busy st .defer 0 (some k) none).line 5).widthTimer = some k) ∧
    (∀ k ∈ [0, 1], ((busy .gap .defer 0 none (some k)).line 5).Sound ∧
      ((busy .gap .defer 0 none (some k)).line 5).gapTimer = some k) ∧
    (State.reset.line 5).Sound ∧ (State.reset.line 5).widthTimer ≠ some 0 := by
  refine ⟨?_, ?_, ⟨by decide, by decide, rfl, rfl⟩, by decide⟩
  · intro st hs k _
    refine ⟨⟨by show (20 : BitVec 16) ≠ 0; decide, by show (5 : BitVec 8) ≠ 0; decide, ?_⟩, rfl⟩
    simp only [List.mem_cons, List.not_mem_nil, or_false] at hs
    rcases hs with rfl | rfl
    · exact ⟨rfl, rfl⟩
    · exact ⟨rfl, rfl⟩
  · intro k _
    exact ⟨⟨by show (20 : BitVec 16) ≠ 0; decide, by show (5 : BitVec 8) ≠ 0; decide, rfl, rfl⟩, rfl⟩

theorem witness_LineWritesStoreWhatEachFieldAllows :
    State.reset.inReset = false ∧ (1 : Halfword) ≠ 0 ∧ ((0x0006 : Halfword).toNat / 2) % 4 = 3 ∧
    ((0x0007 : Halfword).toNat / 8) % 256 = 0 ∧ ((0x07F8 : Halfword).toNat / 8) % 256 = 255 := by decide

theorem witness_CountersAreReturnedAndClearedByTheirRead : loaded.inReset = false := rfl

theorem witness_TriggerEdgeActsInReadyAndIsCountedInHoldoff :
    (State.reset.trigger 1).changed = false ∧
    (∀ st ∈ [TriggerState.ready, .holdoff], ∀ n ∈ [(0 : BitVec 8), 255],
      ((chatter st n).trigger 1).changed = true ∧ ((chatter st n).trigger 1).edge = .rise ∧
      ((chatter st n).trigger 1).filter.level = true ∧ ((chatter st n).trigger 1).state = st ∧
      ((chatter st n).trigger 1).suppressed = n) ∧
    (let s := (chatter .ready 0).setTrigger 1 { (chatter .ready 0).trigger 1 with edge := .fall }
     (s.trigger 1).changed = true ∧ (s.trigger 1).edge = .fall ∧ (s.trigger 1).filter.level = true) := by decide

theorem witness_HoldoffEndsAndTriggerWritesAreStored :
    (let s := (chatter .holdoff 0).setTrigger 1 { (chatter .holdoff 0).trigger 1 with timer := some 0 }
     s.inReset = false ∧ (s.trigger 1).timer = some 0) ∧
    ((chatter .holdoff 0).trigger 1).timer ≠ some 0 ∧ ((chatter .ready 0).trigger 1).timer ≠ some 0 := by decide

theorem witness_SnapshotOffersTheGangCapture : (issued .snapshot 15 loaded).Waits .snapshot 15 := ⟨rfl, rfl, rfl, rfl⟩

theorem trimming_trimSound (m : TrimMode) (h : m ≠ .off) : (trimming m).timebase.TrimSound :=
  ⟨by show 16 ≤ (16 : BitVec 32).toNat; decide, by show (16 : BitVec 32).toNat ≤ 16777216; decide,
   by show 15 < (16 : BitVec 32).toNat; decide, fun g => absurd g h⟩

theorem reset_trimSound : State.reset.timebase.TrimSound := ⟨by decide, by decide, by decide, fun _ => rfl⟩

theorem trimming_settled (m : TrimMode) : (trimming m).Settled := reset_settled

/-- The lines of a part on which none is busy. -/
theorem lines_sound (s : State) (h : s.lines = State.reset.lines) (l : LineNo) : (s.line l).Sound := by
  have hl : s.line l = Line.reset := by
    show s.lines[l] = _
    rw [h]; revert l; show ∀ l : Fin 8, _; decide
  rw [hl]; exact ⟨by decide, by decide, rfl, rfl⟩

/-- An ordinary tick, the adjusted ticks of ADD and SKIP; a tick that finds a step untaken, and before it a sample point of
that tick and an expiry that is not its own; and a pulse left over. -/
theorem witness_TickAdvancesTheTime :
    ((∀ l, (loaded.line l).Sound) ∧ loaded.counted = false ∧
      loaded.reached (.filterSamplePoint (.sync true)) = some false ∧ loaded.reached (.widthExpiry 5) = some false ∧
      (busy .pulsing .discard 0 (some 0) none).reached (.widthExpiry 5) = some true) ∧
    (∀ m ∈ [TrimMode.add, .skip], (trimming m).inReset = false ∧ (trimming m).timebase.TrimSound ∧ (trimming m).Settled ∧
      (trimming m).timebase.AtAdjustedTick ∧ (trimming m).timebase.trimMode = m) ∧
    (State.reset.inReset = false ∧ State.reset.timebase.TrimSound ∧ State.reset.Settled ∧
      ¬ State.reset.timebase.AtAdjustedTick) ∧
    (loaded.inReset = false ∧ ¬ loaded.Settled ∧ loaded.timebase.TrimSound ∧ ¬ loaded.timebase.AtAdjustedTick) := by
  refine ⟨⟨lines_sound loaded rfl, rfl, rfl, rfl, rfl⟩, ?_,
    ⟨rfl, reset_trimSound, reset_settled, fun h => absurd h.1 (by decide)⟩, rfl, fun h => absurd (h.1.1 0).1 (by decide), reset_trimSound, fun h => absurd h.1 (by decide)⟩
  intro m hm
  have hn : m ≠ .off := by rintro rfl; revert hm; decide
  exact ⟨rfl, trimming_trimSound m hn, trimming_settled m, ⟨hn, by show 15 + 1 = (16 : BitVec 32).toNat; decide⟩, rfl⟩

/-- A running age timer one tick before the end of its age unit, and before that; an event that falls together with the
coming tick and one that does not; and a part whose counters have counted the coming tick. -/
theorem witness_TickMovesTheCountersOfClkin :
    let s (n : Nat) := State.reset.setJournal { Journal.reset with age := some { count := 65535, ticks := n } }
    (State.reset.counted = false ∧ State.reset.reached (.filterSamplePoint (.sync true)) = some false ∧
      State.reset.count.reached (.filterSamplePoint (.sync true)) = some true ∧
      State.reset.reached (.widthExpiry 5) = some false ∧ State.reset.count.reached (.widthExpiry 5) = some false) ∧
    (let u := { State.reset with counted := true }
     u.inReset = false ∧ u.Settled ∧ u.reached (.widthExpiry 5) = some false) ∧
    (∀ n, (s n).inReset = false ∧ (s n).Settled) ∧ (s 999).journal.age = some { count := 65535, ticks := 999 } ∧ 1000 ≤ 999 + 1 ∧
    (s 998).journal.age = some { count := 65535, ticks := 998 } ∧ 998 + 1 < 1000 ∧ State.reset.journal.age = none :=
  ⟨⟨rfl, rfl, rfl, rfl, rfl⟩, ⟨rfl, ⟨reset_settled.1, fun h => (by cases h)⟩, rfl⟩,
    fun _ => ⟨rfl, reset_settled⟩, rfl, by decide, rfl, by decide, rfl⟩

theorem witness_TrimKeepsItsRateOverEveryInterval :
    ∀ m, let s := State.reset.setTimebase { Timebase.reset with trimMode := m, interval := 16 }
      s.inReset = false ∧ s.timebase.TrimSound ∧ s.timebase.intervalCount = 0 ∧ s.timebase.changed = false ∧
      s.timebase.trimMode = m :=
  fun _ => ⟨rfl, ⟨by show 16 ≤ (16 : BitVec 32).toNat; decide, by show (16 : BitVec 32).toNat ≤ 16777216; decide,
    by show 0 < (16 : BitVec 32).toNat; decide, fun _ => rfl⟩, rfl, rfl, rfl⟩

/-- The staged interval at both limits and beyond them, and the four codes of a trim mode. -/
theorem witness_TrimAndSyncWritesAreJudged :
    let b (v : BitVec 32) := { Timebase.reset with stagedInterval := v }
    (16 ≤ (b 16).stagedInterval.toNat ∧ (b 16777216).stagedInterval.toNat ≤ 16777216) ∧
    ¬ 16 ≤ (b 15).stagedInterval.toNat ∧ ¬ (b 16777217).stagedInterval.toNat ≤ 16777216 ∧
    ((0xFFFC : Halfword).toNat % 4 = 0 ∧ (1 : Halfword).toNat % 4 = 1 ∧ (2 : Halfword).toNat % 4 = 2 ∧
      (3 : Halfword).toNat % 4 = 3) := by decide

theorem witness_TimeSetAndSyncArming :
    ∀ st ∈ [SyncState.free, .armed], ∀ c ∈ [Command.timeSet, .syncArm, .syncDisarm],
      (issued c 15 (armed st .off)).Waits c 15 ∧ (issued c 15 (armed st .off)).timebase.syncState = st :=
  fun _ _ _ _ => ⟨⟨rfl, rfl, rfl, rfl⟩, rfl⟩

theorem witness_SyncEdgeCapturesOrLoads :
    State.reset.timebase.changed = false ∧
    (∀ st ∈ [SyncState.free, .armed], ∀ m ∈ [SyncMode.off, .capture], (armed st m).inReset = false ∧
      (armed st m).timebase.changed = true ∧ (armed st m).timebase.filter.level = true ∧
      (armed st m).timebase.syncEdge = .rise ∧ (armed st m).timebase.syncState = st ∧ (armed st m).timebase.syncMode = m) ∧
    (let b := { (armed .armed .off).timebase with syncEdge := .fall }
     b.changed = true ∧ b.filter.level = true ∧ b.syncEdge ≠ .rise) := by decide

theorem holding_numbered (mode : JournalMode) (first : BitVec 16) (n : Nat) :
    Numbered (holding mode first n).ring (holding mode first n).nextSeq := by
  intro i h
  have hn : i < n := by simpa [holding] using h
  simp only [holding, List.getElem_map, List.getElem_range, List.length_map, List.length_range, bare]
  rw [BitVec.add_assoc, ← BitVec.ofNat_add, Nat.add_sub_cancel' hn.le]

theorem holding_ringSound (mode : JournalMode) (first : BitVec 16) (n : Nat) (h : n ≤ 64) :
    (holding mode first n).RingSound := by
  have hl : (holding mode first n).ring.length ≤ Config.ringCapacity := by simpa [holding, Config.ringCapacity] using h
  exact ⟨hl, holding_numbered mode first n, fun g => absurd rfl g, hl, holding_numbered mode first n, rfl⟩

/-- Rings up to a full one in both modes; and an offer of the same block, of an earlier one and of a later one in the
moment before the offer. -/
theorem witness_OfferIsAdmittedLostOrOverwrites :
    (∀ mode n, n ≤ 64 → (holding mode 0xFFF0 n).RingSound ∧ (holding mode 0xFFF0 n).ring.length = n ∧
      (holding mode 0xFFF0 n).mode = mode ∧ offersOf (holding mode 0xFFF0 n).moment.events = []) ∧
    (let o : Offer := { source := .schedule 2, content := { cause := .expired, stamp := 0 } }
     offersOf ((holding .stop 0 1).offer o).moment.events = [o] ∧ o.source.place ≤ (Source.schedule 2).place ∧
       o.source.place ≤ (Source.trigger 0).place ∧ ¬ o.source.place ≤ (Source.indexUnit 2).place) :=
  ⟨fun mode n h => ⟨holding_ringSound mode _ n h, by simp [holding], rfl, rfl⟩, by decide⟩

theorem witness_AdmissionOrderIsTheFixedOrder :
    (Source.counter 3 ≠ Source.timebase) ∧ (Source.counter 3).place ≤ (Source.counter 3).place ∧
    (Source.counter 1).place < (Source.counter 3).place ∧
    ((holding .stop 438 62).RingSound ∧ (holding .stop 438 62).moment.events = [] ∧
      (holding .stop 438 62).ring.length + 2 ≤ 64) ∧ ((1 : AxisNo) < 2) ∧ ((0 : TriggerNo) < 3) :=
  ⟨by decide, by decide, by decide, ⟨holding_ringSound _ _ _ (by decide), rfl, by decide⟩, by decide, by decide⟩

/-- The reader CLOSED on a ring and on none; OPEN with the mark, with one record and with two, and without it. -/
theorem witness_ReaderActionsFollowTheReaderState :
    (∃ r rest, (holding .stop 7 1).reader = .closed ∧ (holding .stop 7 1).ring = r :: rest) ∧
    (Journal.reset.reader = .closed ∧ Journal.reset.ring = []) ∧
    (∀ n ∈ [1, 2], let j := (holding .stop 7 n).open
      j.reader = .opened ∧ j.openedMark = true ∧ ∃ r rest, j.ring = r :: rest) ∧
    (let j := { (holding .overwrite 7 64).open with openedMark := false }
     j.reader = .opened ∧ j.openedMark = false) := by
  refine ⟨⟨_, _, rfl, rfl⟩, ⟨rfl, rfl⟩, ?_, rfl, rfl⟩
  intro n hn
  simp only [List.mem_cons, List.not_mem_nil, or_false] at hn
  rcases hn with rfl | rfl
  · exact ⟨rfl, rfl, _, _, rfl⟩
  · exact ⟨rfl, rfl, _, _, rfl⟩

/-- Thresholds 1 and 64 pass, 0 and 65 do not; a change of mode on a ring that is not empty; a hold time just reached. -/
theorem witness_JournalConfigurationAndAgeLatch :
    (1 : Halfword).toNat % 128 = 1 ∧ (64 : Halfword).toNat % 128 = 64 ∧ (0 : Halfword).toNat % 128 < 1 ∧
    64 < (65 : Halfword).toNat % 128 ∧
    (JournalMode.overwrite ≠ (holding .stop 0 1).mode ∧ (holding .stop 0 1).ring ≠ []) ∧
    (let j := { holding .stop 0 1 with holdTime := 3, age := some { count := 3, ticks := 0 } }
     j.holdTime ≠ 0 ∧ j.age = some { count := 3, ticks := 0 } ∧ j.holdTime.toNat ≤ 3) ∧
    (let j := { holding .stop 0 1 with holdTime := 4, age := some { count := 3, ticks := 0 } }
     j.age = some { count := 3, ticks := 0 } ∧ ¬ j.holdTime.toNat ≤ 3) := by decide

theorem witness_ViewIsReadThroughItsPointer :
    let j (p : Nat) := { Journal.reset with view := gangRecord.encode, viewPointer := p }
    (j 14).viewPointer < (j 14).view.length ∧ (j 15).view.length ≤ (j 15).viewPointer ∧ (j 32).viewPointer ≤ 32 ∧
    (32 : Halfword).toNat % 64 ≤ 32 ∧ 32 < (33 : Halfword).toNat % 64 := by decide

/-- A COMPARE with every group, and the bare SYNC. -/
theorem witness_RecordEncodingHasItsHeaderAndLength :
    gangRecord.content.Shaped ∧ (bare 0).content.Shaped :=
  ⟨⟨fun _ => rfl, rfl⟩, ⟨fun h => (by cases h), rfl⟩⟩

theorem witness_FlagsAndEnablesMakeTheInterrupt :
    let s := State.reset.setInterrupts { flags := 5, enables := 4 }
    s.inReset = false ∧ s.interrupts.Sound ∧ s.interrupts.isSet .cmdOverrun = true ∧
    s.interrupts.enables.getLsbD (Flag.number .cmdOverrun) = true := ⟨rfl, rfl, rfl, rfl⟩

theorem witness_FlagsAndEnablesAreKeptByEverythingElse :
    let s := State.reset.setInterrupts { flags := 5, enables := 4 }
    (∃ t, (Instr.enableWrite 1).wellFormed = true ∧ exec (.enableWrite 1) s = .next t ∧
      t.interrupts.enables ≠ s.interrupts.enables) ∧
    ∃ t, (Instr.flagsWrite 4).wellFormed = true ∧ exec (.flagsWrite 4) s = .next t ∧
      s.interrupts.isSet .cmdOverrun = true ∧ t.interrupts.isSet .cmdOverrun = false :=
  ⟨⟨_, rfl, rfl, by decide⟩, ⟨_, rfl, rfl, rfl, rfl⟩⟩

theorem witness_LowReadsCaptureTheWholeValue : loaded.inReset = false := rfl

theorem witness_RegisterWriteStoresOrIsIgnored :
    (Instr.registerWrite 0x68 1).wellFormed = true ∧ (Instr.registerWrite 0x7F 1).wellFormed = true ∧
    (∀ k : Fin 4, (0x68 : Address) ≠ BitVec.ofNat 7 (8 + k.val)) ∧ (0x68 : Address) ≠ 0x65 ∧ (0x68 : Address) ≠ 0x66 := by
  decide

theorem witness_HostAccessesAreTheirRows :
    loaded.inReset = false ∧ (Access.write 0x7F 1).command = some (.registerWrite 0x7F 1) ∧
    (Access.read 0x20).command = some (.positionLowRead 0) ∧ (Access.read 0x00).command = none ∧
    locationAt 0x00 = some .id ∧ locationAt 0x17 = none := by decide

/-! ### The invariants, on `loaded` and on an append in progress -/

theorem loaded_quotas : loaded.QuotasKept := by
  refine ⟨fun p h => (by cases h), ?_⟩
  show ∀ n : Fin 4, _
  decide

theorem loaded_entries : loaded.EntriesValid := by
  refine ⟨loaded_poolSound, fun p h => (by cases h), ?_, ?_⟩
  · intro n h
    have hl : ∀ n : Fin 4, (loaded.axis n).config.range = .linear := by decide
    rw [hl n] at h; cases h
  · have h0 : ∀ n : Fin 4, n ≠ 0 → (loaded.schedule n).list = [] := by decide
    intro n k hk
    by_cases hn : n = 0
    case neg => rw [h0 n hn] at hk; cases hk
    subst hn
    rw [loaded_list] at hk
    simp only [List.mem_cons, List.not_mem_nil, or_false] at hk
    rcases hk with rfl | rfl
    · exact ⟨by decide, by decide, fun _ => by decide, fun h => (by cases h), fun _ => ⟨by decide, fun h => (by cases h)⟩⟩
    · exact ⟨by decide, by decide, fun h => absurd rfl h, fun h => (by cases h), fun h => absurd h (by decide)⟩

theorem loaded_units : loaded.UnitsSound := by
  have hx : ∀ n : Fin 4, (loaded.axis n).config.range = .linear ∧ (loaded.axis n).revolution = 0 ∧
      (loaded.axis n).errorSince = 0 ∧ (loaded.axis n).config.faultThreshold = 0 := by decide
  refine ⟨fun n => ⟨linear_positionSound _ (hx n).1 (hx n).2.1, fun _ => (hx n).2.2.1, fun _ h => absurd (hx n).2.2.2 h⟩,
    ?_, ?_, reset_trimSound, ?_, rfl⟩
  · intro l
    have hl : ∀ l : Fin 8, loaded.line l = Line.reset := by decide
    rw [hl l]; exact ⟨by decide, by decide, rfl, rfl⟩
  · intro n
    have ht : ∀ n : Fin 4, (loaded.trigger n).state = .ready ∧ (loaded.trigger n).timer = none := by decide
    exact ⟨fun h => (by rw [(ht n).1] at h; cases h), fun h => (by rw [(ht n).2] at h; cases h)⟩
  · intro n
    have hd : ∀ n : Fin 4, (loaded.schedule n).draining = false := by decide
    refine ⟨⟨fun h => (by rw [hd n] at h; cases h), ?_⟩, ?_⟩
    · rintro ⟨-, total, h⟩; cases h
    · intro total _ h; cases h

theorem witness_StepsKeepEverySlotInOnePlace :
    loaded.PoolSound ∧ loaded.QuotasKept ∧ ∃ t, step loaded = .next t := ⟨loaded_poolSound, loaded_quotas, _, rfl⟩

theorem witness_StepsKeepEveryEntryValid : loaded.EntriesValid ∧ ∃ t, step loaded = .next t := ⟨loaded_entries, _, rfl⟩

theorem witness_StepsKeepEveryUnitSound : loaded.UnitsSound ∧ ∃ t, step loaded = .next t := ⟨loaded_units, _, rfl⟩

/-- A part whose reader is OPEN on the oldest of two records, about to release it. -/
def reading : State :=
  { State.reset with journal := (holding .stop 7 2).open, pending := [.readerRelease] }

theorem witness_StepsKeepTheJournalSound : reading.journal.Sound ∧ ∃ t, step reading = .next t := by
  refine ⟨⟨?_, ⟨?_, ?_, by decide, by decide, by decide⟩, ⟨by decide, by decide, by decide, by decide⟩, ?_⟩, _, rfl⟩
  · have h := holding_ringSound .stop 7 2 (by decide)
    exact ⟨h.1, h.2.1, fun g => absurd rfl g, h.1, h.2.1, rfl⟩
  · intro _
    refine ⟨rfl, fun os h => ?_⟩
    obtain rfl : os = [] := List.length_eq_zero_iff.mp h
    exact ⟨bare 7, rfl, rfl⟩
  · intro _; exact ⟨by decide, fun _ => rfl⟩
  · have hb : ∀ q, (bare q).content.Shaped := fun q => ⟨fun h => (by cases h), rfl⟩
    have hr : ∀ r ∈ [bare 7, bare 8], r.content.Shaped := by
      intro r hr
      simp only [List.mem_cons, List.not_mem_nil, or_false] at hr
      rcases hr with rfl | rfl
      · exact hb 7
      · exact hb 8
    refine ⟨hr, hr, fun e h c hc => ?_⟩
    obtain rfl : e = .openOldest := List.mem_singleton.mp h
    cases hc

end Sys2Proof.Tests
end

section
/-! AXIS_SETPOS: the range check of a position, the owner's event in each range, and the row that waits (R18). -/
namespace Sys2Proof.Machine

theorem inRevolution_iff (p m : BitVec 32) : inRevolution p m = true ↔ 0 ≤ p.toInt ∧ p.toInt < m.toNat := by
  simp [inRevolution]

theorem not_inRevolution_iff (p m : BitVec 32) : ¬ inRevolution p m = true ↔ p.toInt < 0 ∨ (m.toNat : Int) ≤ p.toInt := by
  rw [inRevolution_iff, not_and_or, Int.not_le, Int.not_lt]

/-! ## The owner's event -/

section
variable {n : AxisNo} {s : State}

theorem State.setPosition_linear (hr : (s.axis n).config.range = .linear) :
    s.setPosition n =
      (s.setAxis n ((s.axis n).load (word32 (s.arg 0) (s.arg 1)) (s.axis n).revolution)).complete .ok 0 0 := by
  simp only [State.setPosition, hr]

theorem State.setPosition_rotary_inside (hr : (s.axis n).config.range = .rotary)
    (hv : inRevolution (word32 (s.arg 0) (s.arg 1)) (s.axis n).config.modulus = true) :
    s.setPosition n = (s.setAxis n ((s.axis n).load (word32 (s.arg 0) (s.arg 1)) 0)).complete .ok 0 0 := by
  simp only [State.setPosition, hr, if_pos hv]

theorem State.setPosition_rotary_outside (hr : (s.axis n).config.range = .rotary)
    (hv : ¬ inRevolution (word32 (s.arg 0) (s.arg 1)) (s.axis n).config.modulus = true) :
    s.setPosition n = s.complete .badArg 0 0 := by
  simp only [State.setPosition, hr, if_neg hv]

end

/-! ## The row -/

/-- An AXIS_SETPOS that waits is taken by the counter of its axis. -/
theorem State.Waits.exec_axisSetpos {n : AxisNo} {s : State} (h : s.Waits .axisSetpos (unitOfAxis n)) :
    exec (.axisSetpos (unitOfAxis n)) s = .next (s.setPosition n) := by
  have hexec : exec (.axisSetpos (unitOfAxis n)) s = execAxisSetpos (unitOfAxis n) s := by rfl
  rw [hexec, execAxisSetpos, h.answer_carryOut, axisOf_unitOfAxis]

/-- Settles O18: the row answers the owner's event, whose branches are the range of the axis and the check of the value
against the modulus. -/
theorem setposLoadsThePosition : Obligations.SetposLoadsThePosition := by
  intro n s hw x v
  rw [hw.exec_axisSetpos]
  refine ⟨fun hr => ?linear, fun hr h0 hM => ?inside, fun hr hout => ?outside⟩
  case linear =>
    rw [State.setPosition_linear hr]
    rfl
  case inside =>
    rw [State.setPosition_rotary_inside hr ((inRevolution_iff v x.config.modulus).mpr ⟨h0, hM⟩)]
    rfl
  case outside =>
    rw [State.setPosition_rotary_outside hr ((not_inRevolution_iff v x.config.modulus).mpr hout)]

end Sys2Proof.Machine
end

section
/-! SCHED_APPEND: the owner's checks in their order, one equation per outcome, and the row that waits (R31, R40). -/
namespace Sys2Proof.Machine

/-! ## The first check: the arguments -/

/-- The arguments of the append name one to eight staging slots, all of them on the staging list: the first check of R40
passes. -/
structure State.AppendFits (s : State) : Prop where
  first_le : (s.arg 0).toNat ≤ 7
  one_le_count : 1 ≤ (s.arg 1).toNat
  last_le : (s.arg 0).toNat + (s.arg 1).toNat ≤ 8

/-- The result of the append's second check: the lowest failing entry of the batch, with its lowest failing check. -/
def State.appendBadEntry (n : AxisNo) (s : State) : Option (Nat × Nat) :=
  s.engine.badEntry (s.axis n).config (s.arg 0).toNat (s.arg 1).toNat

section
variable {n : AxisNo} {s : State}

theorem State.appendRefusal_first_out (h : 7 < (s.arg 0).toNat) : s.appendRefusal n = some (.badArg, 0, 0) := by
  simp only [State.appendRefusal, if_pos h]

theorem State.appendRefusal_count_out (h : (s.arg 0).toNat ≤ 7)
    (hc : (s.arg 1).toNat = 0 ∨ 8 < (s.arg 1).toNat ∨ 8 < (s.arg 0).toNat + (s.arg 1).toNat) :
    s.appendRefusal n = some (.badArg, 1, 0) := by
  simp only [State.appendRefusal, if_neg (Nat.not_lt.mpr h), if_pos hc]

/-- Past the first check, the checks that are left are those of the entries, the quota and the pool. -/
theorem State.appendRefusal_of_fits (h : s.AppendFits) :
    s.appendRefusal n = (s.appendBadEntry n).elim
      (if (s.axis n).config.quota.toNat < (s.schedule n).list.length + (s.arg 1).toNat then
        some (.schedFull, half (s.schedule n).list.length, half (s.axis n).config.quota.toNat)
      else if s.pool.free.length < (s.arg 1).toNat then some (.poolEmpty, half s.pool.free.length, 0)
      else none)
      (fun p => some (.badEntry, half p.1, half p.2)) := by
  obtain ⟨hfirst, hcount, hlast⟩ := h
  have hin : ¬ ((s.arg 1).toNat = 0 ∨ 8 < (s.arg 1).toNat ∨ 8 < (s.arg 0).toNat + (s.arg 1).toNat) := by omega
  simp only [State.appendRefusal, State.appendBadEntry, if_neg (Nat.not_lt.mpr hfirst), if_neg hin]
  cases s.engine.badEntry (s.axis n).config (s.arg 0).toNat (s.arg 1).toNat <;> rfl

/-! ## The second check: the staged entries -/

theorem State.appendBadEntry_eq_some (h : s.AppendFits) {i : Fin 8} {k : Nat}
    (hi : (s.arg 0).toNat ≤ i.val ∧ i.val < (s.arg 0).toNat + (s.arg 1).toNat)
    (hk : (s.engine.staged[i]).Fails (s.axis n).config k)
    (hbelow : ∀ k' < k, ¬ (s.engine.staged[i]).Fails (s.axis n).config k')
    (hbefore : ∀ i' : Fin 8, (s.arg 0).toNat ≤ i'.val → i' < i →
      ∀ k', ¬ (s.engine.staged[i']).Fails (s.axis n).config k') :
    s.appendBadEntry n = some (i.val, k) :=
  Engine.badEntry_of_first _ _ _ _ h.last_le i k hi.1 hi.2 (((StagedEntry.firstBad_spec _ _).1 k).mpr ⟨hk, hbelow⟩)
    fun i' hfirst hlt => (StagedEntry.firstBad_spec _ _).2.mpr (hbefore i' hfirst hlt)

theorem State.appendBadEntry_eq_none (h : s.AppendFits)
    (hpass : ∀ (i : Fin 8) (k : Nat), (s.arg 0).toNat ≤ i.val ∧ i.val < (s.arg 0).toNat + (s.arg 1).toNat →
      ¬ (s.engine.staged[i]).Fails (s.axis n).config k) :
    s.appendBadEntry n = none :=
  (Engine.badEntry_eq_none _ _ _ _ h.last_le).mpr fun i hfirst hlast =>
    (StagedEntry.firstBad_spec _ _).2.mpr fun k => hpass i k ⟨hfirst, hlast⟩

theorem State.appendRefusal_badEntry (h : s.AppendFits) {i k : Nat} (hb : s.appendBadEntry n = some (i, k)) :
    s.appendRefusal n = some (.badEntry, half i, half k) := by
  rw [State.appendRefusal_of_fits h, hb, Option.elim_some]

/-! ## The third and the fourth check: the quota and the pool -/

theorem State.appendRefusal_schedFull (h : s.AppendFits) (hb : s.appendBadEntry n = none)
    (hq : (s.axis n).config.quota.toNat < (s.schedule n).list.length + (s.arg 1).toNat) :
    s.appendRefusal n =
      some (.schedFull, half (s.schedule n).list.length, (s.axis n).config.quota.setWidth 16) := by
  rw [State.appendRefusal_of_fits h, hb, Option.elim_none, if_pos hq, half, half, BitVec.ofNat_toNat]

theorem State.appendRefusal_poolEmpty (h : s.AppendFits) (hb : s.appendBadEntry n = none)
    (hq : (s.schedule n).list.length + (s.arg 1).toNat ≤ (s.axis n).config.quota.toNat)
    (hp : s.pool.free.length < (s.arg 1).toNat) :
    s.appendRefusal n = some (.poolEmpty, half s.pool.free.length, 0) := by
  rw [State.appendRefusal_of_fits h, hb, Option.elim_none, if_neg (Nat.not_lt.mpr hq), if_pos hp]

theorem State.appendRefusal_none (h : s.AppendFits) (hb : s.appendBadEntry n = none)
    (hq : (s.schedule n).list.length + (s.arg 1).toNat ≤ (s.axis n).config.quota.toNat)
    (hp : (s.arg 1).toNat ≤ s.pool.free.length) :
    s.appendRefusal n = none := by
  rw [State.appendRefusal_of_fits h, hb, Option.elim_none, if_neg (Nat.not_lt.mpr hq), if_neg (Nat.not_lt.mpr hp)]

/-! ## The row -/

/-- A SCHED_APPEND that waits is judged by the schedule of its axis. -/
theorem State.Waits.exec_schedAppend (h : s.Waits .schedAppend (unitOfAxis n)) :
    exec (.schedAppend (unitOfAxis n)) s = .next (s.acceptAppend n) := by
  have hexec : exec (.schedAppend (unitOfAxis n)) s = execSchedAppend (unitOfAxis n) s := by rfl
  rw [hexec, execSchedAppend, h.answer_carryOut, axisOf_unitOfAxis]

theorem State.Waits.exec_schedAppend_refused (h : s.Waits .schedAppend (unitOfAxis n)) {code : ResultCode}
    {detail aux : BitVec 16} (hr : s.appendRefusal n = some (code, detail, aux)) :
    exec (.schedAppend (unitOfAxis n)) s = .next (s.complete code detail aux) := by
  simp only [h.exec_schedAppend, State.acceptAppend, hr]

theorem State.Waits.exec_schedAppend_accepted (h : s.Waits .schedAppend (unitOfAxis n))
    (hr : s.appendRefusal n = none) :
    exec (.schedAppend (unitOfAxis n)) s = .next (s.setEngine { s.engine with
      phase := .appending { next := (s.arg 0).toNat, left := (s.arg 1).toNat, first := none } }) := by
  simp only [h.exec_schedAppend, State.acceptAppend, hr]

end

/-- Settles O23: each clause names the first check that refuses the append, or that none does, and the row answers
that. -/
theorem appendIsJudgedInOrder : Obligations.AppendIsJudgedInOrder := by
  intro n s hw first count c length fails inBatch done
  have fails_iff (e : StagedEntry) (k : Nat) : fails e k ↔ e.Fails c k := Iff.rfl
  refine ⟨fun h => ?firstOut, fun h hc => ?countOut, fun h7 h1 h8 => ?fits⟩
  case firstOut => exact hw.exec_schedAppend_refused (State.appendRefusal_first_out h)
  case countOut => exact hw.exec_schedAppend_refused (State.appendRefusal_count_out h hc)
  have hfits : s.AppendFits := ⟨h7, h1, h8⟩
  refine ⟨fun i k hi hk hbefore hbelow => ?badEntry, fun hpass => ?entriesPass⟩
  case badEntry =>
    have hbad : s.appendBadEntry n = some (i.val, k) :=
      State.appendBadEntry_eq_some hfits hi ((fails_iff _ k).mp hk)
        (fun k' hlt hf => hbelow k' hlt ((fails_iff _ k').mpr hf))
        (fun i' hfirst hlt k' hf => hbefore i' k' ⟨hfirst, Nat.lt_trans hlt hi.2⟩ hlt ((fails_iff _ k').mpr hf))
    exact hw.exec_schedAppend_refused (State.appendRefusal_badEntry hfits hbad)
  have hnone : s.appendBadEntry n = none :=
    State.appendBadEntry_eq_none hfits fun i k hi hf => hpass i k hi ((fails_iff _ k).mpr hf)
  refine ⟨fun hq => ?full, fun hq hp => ?empty, fun hq hp => ?accepted⟩
  case full => exact hw.exec_schedAppend_refused (State.appendRefusal_schedFull hfits hnone hq)
  case empty => exact hw.exec_schedAppend_refused (State.appendRefusal_poolEmpty hfits hnone hq hp)
  case accepted => exact hw.exec_schedAppend_accepted (State.appendRefusal_none hfits hnone hq hp)

end Sys2Proof.Machine
end

section
/-! SCHED_HOLD, SCHED_RUN and SCHED_SKIP: the owner's event of each on its schedule, and the rows that wait (R47, R66). -/
namespace Sys2Proof.Machine

/-! ## The owner's events -/

section
variable {n : AxisNo} {s : State}

/-- R47: the mode is set, and the completion reports the mode before the command and the length. -/
theorem State.setRunMode_eq_complete (m : RunMode) :
    s.setRunMode m n = State.complete .ok ((s.schedule n).runMode.code.setWidth 16) (half (s.schedule n).list.length)
      (s.setSchedule n { s.schedule n with runMode := m }) := rfl

theorem State.skipHead_nil (h : (s.schedule n).list = []) : s.skipHead n = s.complete .wrongState 0 0 := by
  simp only [State.skipHead, h]

/-- R66: the head leaves as every head does (R60, R73), and the completion reports its slot and the length left. -/
theorem State.skipHead_cons {k : Slot} {rest : List Slot} (h : (s.schedule n).list = k :: rest) :
    s.skipHead n = (s.departHead n).complete .ok (half k.val) (half rest.length) := by
  simp only [State.skipHead, h]

/-- SCHED_DRY is raised exactly when the head that leaves was the last entry (R73). -/
theorem Interrupts.raiseIf_isEmpty (i : Interrupts) (rest : List Slot) (f : Flag) :
    i.raiseIf rest.isEmpty f = if rest = [] then i.raise f else i := by
  simp only [Interrupts.raiseIf, List.isEmpty_iff]

/-! ## The rows -/

/-- A SCHED_HOLD that waits is taken by the schedule of its axis. -/
theorem State.Waits.exec_schedHold (h : s.Waits .schedHold (unitOfAxis n)) :
    exec (.schedHold (unitOfAxis n)) s = .next (s.setRunMode .hold n) := by
  have hexec : exec (.schedHold (unitOfAxis n)) s = execSchedHold (unitOfAxis n) s := by rfl
  rw [hexec, execSchedHold, h.answer_carryOut, axisOf_unitOfAxis]

/-- A SCHED_RUN that waits is taken by the schedule of its axis. -/
theorem State.Waits.exec_schedRun (h : s.Waits .schedRun (unitOfAxis n)) :
    exec (.schedRun (unitOfAxis n)) s = .next (s.setRunMode .run n) := by
  have hexec : exec (.schedRun (unitOfAxis n)) s = execSchedRun (unitOfAxis n) s := by rfl
  rw [hexec, execSchedRun, h.answer_carryOut, axisOf_unitOfAxis]

/-- A SCHED_SKIP that waits is taken by the schedule of its axis. -/
theorem State.Waits.exec_schedSkip (h : s.Waits .schedSkip (unitOfAxis n)) :
    exec (.schedSkip (unitOfAxis n)) s = .next (s.skipHead n) := by
  have hexec : exec (.schedSkip (unitOfAxis n)) s = execSchedSkip (unitOfAxis n) s := by rfl
  rw [hexec, execSchedSkip, h.answer_carryOut, axisOf_unitOfAxis]

end

/-- Settles O26: each row answers the event of its schedule; the mode reported is the code of the run mode, and a skip
either finds no head or is the departure of one. -/
theorem holdRunAndSkip : Obligations.HoldRunAndSkip := by
  intro n s c mode length
  have hmode : mode = c.runMode.code.setWidth 16 := by
    simp only [mode]
    cases c.runMode <;> rfl
  refine ⟨fun hw => ?schedHold, fun hw => ?schedRun, fun hw => ⟨fun hnil => ?skipEmpty, fun k rest hcons => ?skipHead⟩⟩
  case schedHold =>
    rw [hw.exec_schedHold, State.setRunMode_eq_complete, hmode]
    rfl
  case schedRun =>
    rw [hw.exec_schedRun, State.setRunMode_eq_complete, hmode]
    rfl
  case skipEmpty => rw [hw.exec_schedSkip, State.skipHead_nil hnil]
  case skipHead =>
    rw [hw.exec_schedSkip, State.skipHead_cons hcons, State.departHead_cons n k s hcons, Interrupts.raiseIf_isEmpty]
    rfl

end Sys2Proof.Machine
end

section
/-! HOME_ARM and HOME_CANCEL: the homing unit's event of each, and the rows that wait (R84, R85). -/
namespace Sys2Proof.Machine

/-! ## The owner's events -/

section
variable {n : AxisNo} {s : State}

/-- R84: an axis that is not SEEKING starts to seek, and nothing but its homing state changes before the completion. -/
theorem State.armHoming_of_ne_seeking (h : (s.axis n).homing ≠ .seeking) :
    s.armHoming n = State.complete .ok ((s.axis n).homing.code.setWidth 16) 0
      (s.setAxis n { s.axis n with homing := .seeking }) := by
  simp only [State.armHoming, if_neg h]

/-- R84: an axis already SEEKING refuses the arm, with the code 1 of SEEKING as the detail. -/
theorem State.armHoming_of_seeking (h : (s.axis n).homing = .seeking) :
    s.armHoming n = s.complete .wrongState 1 0 := by
  simp only [State.armHoming, if_pos h]
  rw [h]
  rfl

/-- R85: an axis that is SEEKING becomes UNREFERENCED, whatever it was before its arm. -/
theorem State.cancelHoming_of_seeking (h : (s.axis n).homing = .seeking) :
    s.cancelHoming n = State.complete .ok 1 0 (s.setAxis n { s.axis n with homing := .unreferenced }) := by
  simp only [State.cancelHoming, if_pos h]
  rw [h]
  rfl

/-- R85: an axis that is not SEEKING has no homing to cancel. -/
theorem State.cancelHoming_of_ne_seeking (h : (s.axis n).homing ≠ .seeking) :
    s.cancelHoming n = s.complete .wrongState ((s.axis n).homing.code.setWidth 16) 0 := by
  simp only [State.cancelHoming, if_neg h]

/-! ## The rows -/

/-- A HOME_ARM that waits is taken by the homing unit of its axis. -/
theorem State.Waits.exec_homeArm (h : s.Waits .homeArm (unitOfAxis n)) :
    exec (.homeArm (unitOfAxis n)) s = .next (s.armHoming n) := by
  have hexec : exec (.homeArm (unitOfAxis n)) s = execHomeArm (unitOfAxis n) s := by rfl
  rw [hexec, execHomeArm, h.answer_carryOut, axisOf_unitOfAxis]

/-- A HOME_CANCEL that waits is taken by the homing unit of its axis. -/
theorem State.Waits.exec_homeCancel (h : s.Waits .homeCancel (unitOfAxis n)) :
    exec (.homeCancel (unitOfAxis n)) s = .next (s.cancelHoming n) := by
  have hexec : exec (.homeCancel (unitOfAxis n)) s = execHomeCancel (unitOfAxis n) s := by rfl
  rw [hexec, execHomeCancel, h.answer_carryOut, axisOf_unitOfAxis]

end

/-- Settles O30: each row answers the event of its homing unit, which turns on whether the axis is SEEKING; the detail is
the code of the homing state before. -/
theorem homeArmAndCancel : Obligations.HomeArmAndCancel := by
  intro n s x before
  have hbefore : before = x.homing.code.setWidth 16 := by
    simp only [before]
    cases x.homing <;> rfl
  refine ⟨fun hw => ⟨fun hne => ?armed, fun hseek => ?armRefused⟩,
    fun hw => ⟨fun hseek => ?cancelled, fun hne => ?nothingToCancel⟩⟩
  case armed =>
    rw [hw.exec_homeArm, State.armHoming_of_ne_seeking hne, hbefore]
    rfl
  case armRefused => rw [hw.exec_homeArm, State.armHoming_of_seeking hseek]
  case cancelled =>
    rw [hw.exec_homeCancel, State.cancelHoming_of_seeking hseek]
    rfl
  case nothingToCancel => rw [hw.exec_homeCancel, State.cancelHoming_of_ne_seeking hne, hbefore]

end Sys2Proof.Machine
end

section
/-! LINE_CONFIG_WRITE and WIDTH_WRITE: the fields of a configuration halfword as numbers, what each write leaves in a line,
and the rows out of reset (R90, R101, R102, R193). -/
namespace Sys2Proof.Machine

/-- A bit field as a number: the bits below it divided away, those above it taken off by the remainder. -/
theorem toNat_field (d : Halfword) (lo w : Nat) : (field d lo w).toNat = d.toNat / 2 ^ lo % 2 ^ w := by
  rw [field, BitVec.extractLsb'_toNat, Nat.shiftRight_eq_div_pow]

/-- 11 section 11.6.5: each of the codes 0, 1 and 2 names a policy, and 3 names none. -/
theorem CollisionPolicy.ofCode_cases (c : BitVec 2) :
    (c.toNat = 0 ∧ CollisionPolicy.ofCode c = some .restart) ∨
    (c.toNat = 1 ∧ CollisionPolicy.ofCode c = some .discard) ∨
    (c.toNat = 2 ∧ CollisionPolicy.ofCode c = some .defer) ∨
    (c.toNat = 3 ∧ CollisionPolicy.ofCode c = none) := by
  revert c
  decide

/-! ## The writes at the line -/

section
variable (d : Halfword) (x : Line)

/-- R90: the pin is at the pulse level during a pulse, deferred request or not, and at the static level otherwise. -/
theorem Line.pin_eq_ite : x.pin = if x.state = .pulsing ∨ x.state = .deferred then x.pulseLevel else x.staticLevel := by
  cases h : x.state <;> simp [Line.pin, h]

/-- R102: a configuration write reaches the pulse level, the policy and the gap, and nothing else of the line. -/
theorem Line.writeConfig_frame : x.writeConfig d =
    { x with pulseLevel := d.getLsbD 0, policy := (x.writeConfig d).policy, gap := (x.writeConfig d).gap } := rfl

theorem Line.writeConfig_policy :
    (x.writeConfig d).policy = (CollisionPolicy.ofCode (field d 1 2)).getD x.policy := rfl

/-- R102, R193: a gap of 0 is not stored. -/
theorem Line.writeConfig_gap_toNat : (x.writeConfig d).gap.toNat =
    if d.toNat / 8 % 256 = 0 then x.gap.toNat else d.toNat / 8 % 256 := by
  have hfield : (field d 3 8).toNat = d.toNat / 8 % 256 := toNat_field d 3 8
  have hzero : field d 3 8 = 0 ↔ d.toNat / 8 % 256 = 0 := by rw [← hfield, BitVec.toNat_eq]; rfl
  simp only [Line.writeConfig, apply_ite BitVec.toNat, hzero, hfield]

/-- R90: the new pulse level shows at the pin of a pulse in progress, and the pin of any other line does not move. -/
theorem Line.writeConfig_pin : (x.writeConfig d).pin =
    if x.state = .pulsing ∨ x.state = .deferred then d.getLsbD 0 else x.staticLevel :=
  Line.pin_eq_ite _

theorem Line.writeWidth_of_ne_zero (h : d ≠ 0) : x.writeWidth d = { x with width := d } := by
  simp only [Line.writeWidth, if_neg h]

/-- R101: a width of 0 is not stored. -/
theorem Line.writeWidth_zero : x.writeWidth 0 = x := rfl

end

/-! ## The rows -/

section
variable (l : LineNo) {s : State}

theorem exec_lineConfigWrite_of_running (d : Halfword) (h : s.inReset = false) :
    exec (.lineConfigWrite l d) s = .next (s.setLine l ((s.line l).writeConfig d)) := by
  have hexec : exec (.lineConfigWrite l d) s = execLineConfigWrite l d s := by rfl
  rw [hexec, execLineConfigWrite, answer_of_running _ _ h, State.writeLineConfig]

theorem exec_widthWrite_of_running (d : Halfword) (h : s.inReset = false) :
    exec (.widthWrite l d) s = .next (s.setLine l ((s.line l).writeWidth d)) := by
  have hexec : exec (.widthWrite l d) s = execWidthWrite l d s := by rfl
  rw [hexec, execWidthWrite, answer_of_running _ _ h, State.writeLineWidth]

end

/-- Settles O34: each row sets the line to what its write leaves there; the policy is read off the four codes of its
field. -/
theorem lineWritesStoreWhatEachFieldAllows : Obligations.LineWritesStoreWhatEachFieldAllows := by
  intro l d s hrun x
  refine ⟨⟨x.writeConfig d, exec_lineConfigWrite_of_running l d hrun, Line.writeConfig_frame d x, ?policy,
    Line.writeConfig_gap_toNat d x, Line.writeConfig_pin d x⟩, fun hne => ?width, fun hzero => ?widthZero⟩
  case policy =>
    have hfield : (field d 1 2).toNat = d.toNat / 2 % 4 := toNat_field d 1 2
    rw [Line.writeConfig_policy, ← hfield]
    obtain ⟨hcode, hpolicy⟩ | ⟨hcode, hpolicy⟩ | ⟨hcode, hpolicy⟩ | ⟨hcode, hpolicy⟩ :=
      CollisionPolicy.ofCode_cases (field d 1 2)
    all_goals
      rw [hpolicy, hcode]
      rfl
  case width =>
    rw [exec_widthWrite_of_running l d hrun, Line.writeWidth_of_ne_zero d _ hne]
    rfl
  case widthZero => rw [exec_widthWrite_of_running l d hrun, hzero, Line.writeWidth_zero, State.setLine_of_line]

end Sys2Proof.Machine
end

section
/-! SNAPSHOT: the mask and the size of a gang capture as sums over its axes, and the row that waits (R116, R118). -/
namespace Sys2Proof.Machine

/-! ## A gang capture, axis by axis -/

/-- What axis `n` adds to the size of a gang capture: 1 when its position is present. -/
def Gang.count (g : Gang) (n : AxisNo) : Nat := if g.positions[n].isSome then 1 else 0

/-- R116: axis n counts 2 to the power n in the present mask. -/
theorem Gang.mask_setWidth (g : Gang) :
    g.mask.setWidth 16 = BitVec.ofNat 16 (g.count 0 + 2 * g.count 1 + 4 * g.count 2 + 8 * g.count 3) := by
  have hbits : ∀ a b c d : Bool,
      (BitVec.ofBool d ++ BitVec.ofBool c ++ BitVec.ofBool b ++ BitVec.ofBool a).setWidth 16 =
        BitVec.ofNat 16 ((if a then 1 else 0) + 2 * (if b then 1 else 0) + 4 * (if c then 1 else 0) +
          8 * (if d then 1 else 0)) := by decide
  exact hbits _ _ _ _

/-- The positions that are present are as many as the axes that count. -/
theorem Gang.present_length_eq_count (g : Gang) :
    g.present.length = g.count 0 + g.count 1 + g.count 2 + g.count 3 := by
  have hlist : g.positions.toList =
      [g.positions[(0 : AxisNo)], g.positions[(1 : AxisNo)], g.positions[(2 : AxisNo)], g.positions[(3 : AxisNo)]] :=
    List.ext_getElem (by simp) fun i hi _ => by
      have hlt : i < 4 := by simpa using hi
      interval_cases i <;> rfl
  rw [g.present_length, hlist, ← List.countP_eq_length_filter]
  simp only [List.countP_cons, List.countP_nil, Gang.count]
  omega

section
variable (s : State)

/-- R116: the capture holds the position of each axis that is not STOPPED. -/
theorem State.gang_positions (n : AxisNo) :
    s.gang.positions[n] = if (s.axis n).state = .stopped then none else some (s.axis n).position := by
  simp only [State.gang, eachUnit_eq_map, Fin.getElem_fin, Vector.getElem_map]
  rfl

theorem State.gang_count (n : AxisNo) : s.gang.count n = if (s.axis n).state = .stopped then 0 else 1 := by
  rw [Gang.count, s.gang_positions n]
  split <;> rfl

end

/-! ## The row -/

/-- A SNAPSHOT that waits is taken by the trigger unit, whatever unit it names. -/
theorem State.Waits.exec_snapshot {u : UnitNo} {s : State} (h : s.Waits .snapshot u) :
    exec (.snapshot u) s = .next s.takeSnapshot := by
  have hexec : exec (.snapshot u) s = execSnapshot u s := by rfl
  rw [hexec, execSnapshot, h.answer_carryOut]

/-- Settles O38: the capture offered is the gang of the state; the mask and the size that the event reports are the sums of
its axes, and an axis counts exactly when it is not STOPPED. -/
theorem snapshotOffersTheGangCapture : Obligations.SnapshotOffersTheGangCapture := by
  intro u s hw present
  have hpresent (n : AxisNo) : s.gang.count n = present n := s.gang_count n
  refine ⟨s.gang, ?_, s.gang_positions⟩
  rw [hw.exec_snapshot, State.takeSnapshot, half, Gang.mask_setWidth, Gang.present_length_eq_count]
  simp only [hpresent]

end Sys2Proof.Machine
end

section
/-! TIME_SET, SYNC_ARM and SYNC_DISARM: the timebase's event of each, and the rows that wait (R125, R130). -/
namespace Sys2Proof.Machine

/-! ## The owner's events -/

section
variable {s : State}

/-- R125: a load changes the time and takes up the comparison of all four schedules (R60), and nothing else. -/
theorem State.loadTime_eq (v : Time) (s : State) : s.loadTime v =
    { s with timebase := { s.timebase with time := v }
             schedules := s.schedules.map fun c => { c with compareDue := true } } := by
  rw [State.loadTime, State.takeUpAll, eachUnit_eq_map]
  rfl

/-- The detail of SYNC_ARM: 0 for FREE and 1 for ARMED (R130). -/
theorem SyncState.code_setWidth (x : SyncState) :
    x.code.setWidth 16 = match x with | .free => (0 : BitVec 16) | .armed => 1 := by
  cases x <;> rfl

/-- R130: on an ARMED part the disarm reaches the sync state alone, so the load value keeps its value. -/
theorem State.disarmSync_of_armed (h : s.timebase.syncState = .armed) :
    s.disarmSync = (s.setTimebase { s.timebase with syncState := .free }).complete .ok 1 0 := by
  simp only [State.disarmSync, h]

/-- R130: a FREE part has nothing to disarm. -/
theorem State.disarmSync_of_free (h : s.timebase.syncState = .free) : s.disarmSync = s.complete .wrongState 0 0 := by
  simp only [State.disarmSync, h]

/-! ## The rows -/

variable {u : UnitNo}

/-- A TIME_SET that waits is taken by the timebase, whatever unit it names. -/
theorem State.Waits.exec_timeSet (h : s.Waits .timeSet u) : exec (.timeSet u) s = .next s.setTime := by
  have hexec : exec (.timeSet u) s = execTimeSet u s := by rfl
  rw [hexec, execTimeSet, h.answer_carryOut]

/-- A SYNC_ARM that waits is taken by the timebase, whatever unit it names. -/
theorem State.Waits.exec_syncArm (h : s.Waits .syncArm u) : exec (.syncArm u) s = .next s.armSync := by
  have hexec : exec (.syncArm u) s = execSyncArm u s := by rfl
  rw [hexec, execSyncArm, h.answer_carryOut]

/-- A SYNC_DISARM that waits is taken by the timebase, whatever unit it names. -/
theorem State.Waits.exec_syncDisarm (h : s.Waits .syncDisarm u) :
    exec (.syncDisarm u) s = .next s.disarmSync := by
  have hexec : exec (.syncDisarm u) s = execSyncDisarm u s := by rfl
  rw [hexec, execSyncDisarm, h.answer_carryOut]

end

/-- Settles O43: each row answers the event of the timebase. TIME_SET is the load with its record, SYNC_ARM reports the
sync state before, and SYNC_DISARM turns on that state. -/
theorem timeSetAndSyncArming : Obligations.TimeSetAndSyncArming := by
  intro u s b v
  have hv : s.timeArg = v := rfl
  refine ⟨fun hw => ?timeSet, fun hw => ?syncArm, fun hw => ⟨fun harmed => ?disarmed, fun hfree => ?nothingToDisarm⟩⟩
  case timeSet =>
    rw [hw.exec_timeSet, State.setTime, State.loadTime_eq, hv]
    rfl
  case syncArm =>
    rw [hw.exec_syncArm, State.armSync, SyncState.code_setWidth, hv]
    rfl
  case disarmed =>
    rw [hw.exec_syncDisarm, State.disarmSync_of_armed harmed]
    rfl
  case nothingToDisarm => rw [hw.exec_syncDisarm, State.disarmSync_of_free hfree]

end Sys2Proof.Machine
end

section
/-! COMMAND_WRITE: one equation per outcome of the common checks, and the row out of reset (R163, R164, R167). -/
namespace Sys2Proof.Machine

section
variable (d : Halfword) {s : State} {c : Command}

/-! ## The write at the engine -/

/-- R167: a write while EXECUTING is an overrun. -/
theorem State.commandWrite_of_executing (h : s.engine.phase ≠ .idle) : s.commandWrite d = s.raise .cmdOverrun := by
  simp only [State.commandWrite, if_pos h]

/-- R163: both checks pass, and the command waits for its owner. -/
theorem State.commandWrite_passes (h : s.engine.phase = .idle) (hc : c.code = (s.engine.issue d).opcode)
    (hu : (s.engine.issue d).unit.toNat < c.units) : s.commandWrite d = s.setEngine (s.engine.issue d) := by
  rw [State.commandWrite, if_neg (not_not_intro h)]
  simp only [State.setEngine_engine, Command.ofOpcode_eq_some.mpr hc]
  exact if_pos hu

/-- R164: the opcode names a command, and the unit number is outside its range. -/
theorem State.commandWrite_badUnit (h : s.engine.phase = .idle) (hc : c.code = (s.engine.issue d).opcode)
    (hu : c.units ≤ (s.engine.issue d).unit.toNat) :
    s.commandWrite d =
      (s.setEngine (s.engine.issue d)).complete .badArg 65535 ((s.engine.issue d).unit.setWidth 16) := by
  rw [State.commandWrite, if_neg (not_not_intro h)]
  simp only [State.setEngine_engine, Command.ofOpcode_eq_some.mpr hc]
  exact if_neg (Nat.not_lt.mpr hu)

/-- R164: the opcode names no command, and the unit number is not judged. -/
theorem State.commandWrite_badOpcode (h : s.engine.phase = .idle)
    (hc : ∀ c : Command, c.code ≠ (s.engine.issue d).opcode) :
    s.commandWrite d =
      (s.setEngine (s.engine.issue d)).complete .badOpcode ((s.engine.issue d).opcode.setWidth 16) 0 := by
  rw [State.commandWrite, if_neg (not_not_intro h)]
  simp only [State.setEngine_engine, Command.ofOpcode_eq_none.mpr hc]

/-- An issue that completes with an error in its own event leaves the engine IDLE as it was: only the command word, the
argument copy, the result and the two flags are touched (R163, R164). -/
theorem State.complete_issue_of_idle (h : s.engine.phase = .idle) {code : ResultCode} (hcode : code ≠ .ok)
    (detail aux : BitVec 16) :
    (s.setEngine (s.engine.issue d)).complete code detail aux =
      { s with engine := { s.engine with opcode := d.extractLsb' 0 8, unit := d.extractLsb' 8 4
                                         argCopy := s.engine.args, result := code, detail := detail, aux := aux }
               interrupts := (s.interrupts.raise .cmdDone).raise .cmdErr } := by
  simp only [State.complete, State.setEngine, Engine.issue, field, hcode, ne_eq, not_false_eq_true, decide_true,
    Interrupts.raiseIf_true, h]

/-! ## The row -/

theorem exec_commandWrite_of_running (h : s.inReset = false) :
    exec (.commandWrite d) s = .next (s.commandWrite d) := by
  have hexec : exec (.commandWrite d) s = execCommandWrite d s := by rfl
  rw [hexec, execCommandWrite, answer_of_running _ _ h]

end

/-- Settles O5: the row answers the write at the engine, which turns on the phase, then on the opcode, then on the unit
number. -/
theorem commandWriteStoresChecksAndIssues : Obligations.CommandWriteStoresChecksAndIssues := by
  intro d s hrun e
  rw [exec_commandWrite_of_running d hrun]
  refine ⟨fun hidle => ⟨fun c hc hu => ?issued, fun c hc hu => ?badUnit, fun hc => ?badOpcode⟩, fun hbusy => ?overrun⟩
  case issued =>
    rw [State.commandWrite_passes d hidle hc hu]
    rfl
  case badUnit =>
    rw [State.commandWrite_badUnit d hidle hc hu, State.complete_issue_of_idle d hidle (by decide)]
    rfl
  case badOpcode =>
    rw [State.commandWrite_badOpcode d hidle hc, State.complete_issue_of_idle d hidle (by decide)]
    rfl
  case overrun =>
    rw [State.commandWrite_of_executing d hbusy]
    rfl

end Sys2Proof.Machine
end

section
/-! The rows of the table as events: what each command does to a part that is out of reset, the gate that holds it back while
RESETn is asserted, and every outcome of a command as one inversion (R121, R163 to R167, R185). -/
namespace Sys2Proof.Machine

/-! ## The owner's event of each command of the engine -/

/-- The event by which the owning block takes a command of 09 section 9.9 (R165). -/
def Command.owner (c : Command) (u : UnitNo) : State → State :=
  match c with
  | .schedAppend => State.acceptAppend (axisOf u)
  | .schedSkip => State.skipHead (axisOf u)
  | .schedFlush => State.acceptFlush (axisOf u)
  | .schedHold => State.setRunMode .hold (axisOf u)
  | .schedRun => State.setRunMode .run (axisOf u)
  | .axisConfig => State.configureAxis (axisOf u)
  | .axisStart => State.startAxis (axisOf u)
  | .axisStop => State.stopAxis (axisOf u)
  | .axisResume => State.resumeAxis (axisOf u)
  | .axisSetpos => State.setPosition (axisOf u)
  | .axisClrerr => State.clearErrors (axisOf u)
  | .axisReset => State.resetAxis (axisOf u)
  | .homeArm => State.armHoming (axisOf u)
  | .homeCancel => State.cancelHoming (axisOf u)
  | .outSet => State.outCommand .set (lineOf u)
  | .outClear => State.outCommand .clear (lineOf u)
  | .outToggle => State.outCommand .toggle (lineOf u)
  | .outPulse => State.outCommand .pulse (lineOf u)
  | .timeSet => State.setTime
  | .syncArm => State.armSync
  | .syncDisarm => State.disarmSync
  | .snapshot => State.takeSnapshot
  | .chipReset => State.resetChip

/-- Every command row is the engine's row with its owner's event. -/
theorem exec_row (k : Command) (u : UnitNo) (s : State) :
    exec (k.row u) s = answer (State.carryOut k u (k.owner u)) s := by
  cases k <;> rfl

/-- A command that waits is taken by its owner. -/
theorem State.Waits.exec_row {k : Command} {u : UnitNo} {s : State} (h : s.Waits k u) :
    exec (k.row u) s = .next (k.owner u s) := by
  rw [Machine.exec_row, h.answer_carryOut]

/-! ## The event of each row -/

/-- APPEND_STEP on a part that is out of reset, where the free list has the slot it needs (R41). -/
def State.stepAppend (s : State) : State :=
  match s.engine.phase, s.pool.free with
  | .appending p, k :: rest => if p.left = 0 then s else s.appendEntry p k rest
  | _, _ => s

/-- FLUSH_STEP on a part that is out of reset (R70). -/
def State.stepFlush (s : State) : State :=
  match s.engine.phase with
  | .flushing _ => s.returnHead (axisOf s.engine.unit)
  | _ => s

/-- FLUSH_COMPLETION on a part that is out of reset (R71). -/
def State.endFlush (s : State) : State :=
  match s.engine.phase with
  | .flushing total => if (s.schedule (axisOf s.engine.unit)).list = [] then s.completeFlush total else s
  | _ => s

/-- What a command does to a part that is out of reset. -/
def event (c : Instr) : State → State :=
  match c with
  | .pinReset => fun s => { State.reset with inReset := true, pending := s.pending }
  | .resetnRelease => fun s => { s with inReset := false }
  | .decoderEvaluation e => State.takeEvaluation e
  | .indexEdge e => State.takeZChange e
  | .triggerLevelChange n => State.takeLevelChange n
  | .holdoffExpiry n => State.atTick (State.holdoffOver n) (State.expireHoldoff n)
  | .syncEdge => State.takeSyncChange
  | .timebaseTick => State.tick
  | .trimAdjustedTick => fun s => if s.timebase.adjusts then s.tick else s
  | .deadlineComparison n => fun s => if (s.schedule n).compareDue then s.compareDeadline n else s
  | .widthExpiry l => State.atTick (State.widthOver l) (State.expireWidth l)
  | .gapExpiry l => State.atTick (State.gapOver l) (State.expireGap l)
  | .ageLatchSet => State.atTick State.aged State.setAgeLatch
  | .schedAppend u => State.carryOut .schedAppend u (Command.owner .schedAppend u)
  | .appendStep => State.stepAppend
  | .appendCompletion => State.completeAppend
  | .schedSkip u => State.carryOut .schedSkip u (Command.owner .schedSkip u)
  | .schedFlush u => State.carryOut .schedFlush u (Command.owner .schedFlush u)
  | .flushStep => State.stepFlush
  | .flushCompletion => State.endFlush
  | .schedHold u => State.carryOut .schedHold u (Command.owner .schedHold u)
  | .schedRun u => State.carryOut .schedRun u (Command.owner .schedRun u)
  | .axisConfig u => State.carryOut .axisConfig u (Command.owner .axisConfig u)
  | .axisStart u => State.carryOut .axisStart u (Command.owner .axisStart u)
  | .axisStop u => State.carryOut .axisStop u (Command.owner .axisStop u)
  | .axisResume u => State.carryOut .axisResume u (Command.owner .axisResume u)
  | .axisSetpos u => State.carryOut .axisSetpos u (Command.owner .axisSetpos u)
  | .axisClrerr u => State.carryOut .axisClrerr u (Command.owner .axisClrerr u)
  | .axisReset u => State.carryOut .axisReset u (Command.owner .axisReset u)
  | .homeArm u => State.carryOut .homeArm u (Command.owner .homeArm u)
  | .homeCancel u => State.carryOut .homeCancel u (Command.owner .homeCancel u)
  | .outSet u => State.carryOut .outSet u (Command.owner .outSet u)
  | .outClear u => State.carryOut .outClear u (Command.owner .outClear u)
  | .outToggle u => State.carryOut .outToggle u (Command.owner .outToggle u)
  | .outPulse u => State.carryOut .outPulse u (Command.owner .outPulse u)
  | .timeSet u => State.carryOut .timeSet u (Command.owner .timeSet u)
  | .syncArm u => State.carryOut .syncArm u (Command.owner .syncArm u)
  | .syncDisarm u => State.carryOut .syncDisarm u (Command.owner .syncDisarm u)
  | .snapshot u => State.carryOut .snapshot u (Command.owner .snapshot u)
  | .chipReset u => State.carryOut .chipReset u (Command.owner .chipReset u)
  | .readerOpen => Window.write .jctrl 1
  | .readerRelease => Window.write .jctrl 2
  | .readerDiscard => Window.write .jctrl 3
  | .jcfgWrite d => Window.write .jcfg d
  | .jholdWrite d => Window.write .jhold d
  | .viewDataRead => Window.read .viewData
  | .viewPointerWrite d => Window.write .viewPointer d
  | .overwriteCountRead => Window.read .overwriteCount
  | .flagsWrite d => Window.write .flags d
  | .enableWrite d => Window.write .enable d
  | .stageSelWrite d => Window.write .stageSel d
  | .stagedEntryWrite k d => Window.write (.staged k) d
  | .axisStagingWrite k d => Window.write (.axisStaging k) d
  | .lineConfigWrite l d => Window.write (.lineConfig l) d
  | .widthWrite l d => Window.write (.lineWidth l) d
  | .collisionCounterRead l => Window.read (.collisions l)
  | .triggerConfigWrite n d => Window.write (.triggerConfig n) d
  | .holdoffWrite n d => Window.write (.holdoff n) d
  | .syncConfigWrite d => Window.write .syncConfig d
  | .trimModeWrite d => Window.write .trimMode d
  | .addsCounterRead => Window.read .adds
  | .skipsCounterRead => Window.read .skips
  | .positionLowRead n => Window.read (.axisWindow n 0)
  | .timeLowRead => Window.read (.time 0)
  | .registerWrite a d => Window.writeAt a d
  | .filterSamplePoint f => State.atTick (State.sampleDue f) (State.takeSample f)
  | .commandWrite d => Window.write .cmd d

/-- An append step has no free slot to take: the one condition under which the machine stops [12]. -/
def State.AppendStarved (s : State) : Prop :=
  s.inReset = false ∧ s.pool.free = [] ∧ ∃ p, s.engine.phase = .appending p ∧ p.left ≠ 0

/-- Everything APPEND_STEP can answer. -/
theorem exec_appendStep_cases (s : State) :
    (s.AppendStarved ∧ exec .appendStep s = .fault .poolExhausted) ∨
    (¬ s.AppendStarved ∧ exec .appendStep s = .next (s.outsideReset State.stepAppend)) := by
  have hexec : exec .appendStep s = execAppendStep s := by rfl
  rw [hexec]
  unfold State.AppendStarved execAppendStep State.outsideReset State.stepAppend
  cases hr : s.inReset with
  | true => simp
  | false =>
    cases hp : s.engine.phase with
    | appending p => cases hf : s.pool.free <;> by_cases hl : p.left = 0 <;> simp [hl]
    | _ => simp

/-- A row that no reset gate holds back. -/
def Ungated (c : Instr) : Prop := c = .pinReset ∨ c = .resetnRelease

/-- Every row but PIN_RESET, RESETN_RELEASE and APPEND_STEP answers its event through the reset gate. -/
theorem exec_eq_answer (c : Instr) (s : State) (hc : ¬ Ungated c) (ha : c ≠ .appendStep) :
    exec c s = answer (event c) s := by
  cases c <;> first | rfl | exact absurd (.inl rfl) hc | exact absurd (.inr rfl) hc | exact absurd rfl ha

theorem exec_ungated (c : Instr) (s : State) (hc : Ungated c) : exec c s = .next (event c s) := by
  obtain rfl | rfl := hc <;> rfl

/-- A command on a part that is out of reset answers its event. -/
theorem exec_of_running (c : Instr) {s : State} (h : s.inReset = false) (ha : c ≠ .appendStep) :
    exec c s = .next (event c s) := by
  by_cases hc : Ungated c
  · exact exec_ungated c s hc
  · rw [exec_eq_answer c s hc ha, answer_of_running _ _ h]

theorem exec_appendStep_of_running {s : State} (h : s.inReset = false) (hs : ¬ s.AppendStarved) :
    exec .appendStep s = .next s.stepAppend := by
  obtain ⟨hs', _⟩ | ⟨_, e⟩ := exec_appendStep_cases s
  · exact absurd hs' hs
  · rw [e, State.outsideReset, if_neg (by simp [h])]

/-- While RESETn is asserted every other row leaves the part as it is [6]. -/
theorem exec_of_reset (c : Instr) {s : State} (h : s.inReset = true) (hc : ¬ Ungated c) : exec c s = .next s := by
  by_cases ha : c = .appendStep
  · subst ha
    obtain ⟨⟨hs, _⟩, _⟩ | ⟨_, e⟩ := exec_appendStep_cases s
    · rw [h] at hs; cases hs
    · rw [e, State.outsideReset, if_pos h]
  · rw [exec_eq_answer c s hc ha, answer_of_reset _ _ h]

/-- Every answer of a command: the state as it is, while RESETn is asserted, or the event of its row. -/
theorem exec_next {c : Instr} {s t : State} (h : exec c s = .next t) :
    (s.inReset = true ∧ ¬ Ungated c ∧ t = s) ∨ ((s.inReset = false ∨ Ungated c) ∧ t = event c s) := by
  by_cases hc : Ungated c
  · rw [exec_ungated c s hc] at h
    exact .inr ⟨.inr hc, (Host.Outcome.next.inj h).symm⟩
  cases hr : s.inReset with
  | true =>
    rw [exec_of_reset c hr hc] at h
    exact .inl ⟨rfl, hc, (Host.Outcome.next.inj h).symm⟩
  | false =>
    refine .inr ⟨.inl rfl, ?_⟩
    by_cases ha : c = .appendStep
    · subst ha
      obtain ⟨_, e⟩ | ⟨hs, _⟩ := exec_appendStep_cases s
      · rw [e] at h; cases h
      · rw [exec_appendStep_of_running hr hs] at h
        exact (Host.Outcome.next.inj h).symm
    · rw [exec_of_running c hr ha] at h
      exact (Host.Outcome.next.inj h).symm

/-! ## Everything an event can do -/

/-- The rows that fall together with a tick of CLKIN, each with its condition and its event (R121). -/
inductive FallsWithTick : Instr → (State → Bool) → (State → State) → Prop
  | sample (f : FilterInput) : FallsWithTick (.filterSamplePoint f) (State.sampleDue f) (State.takeSample f)
  | width (l : LineNo) : FallsWithTick (.widthExpiry l) (State.widthOver l) (State.expireWidth l)
  | gap (l : LineNo) : FallsWithTick (.gapExpiry l) (State.gapOver l) (State.expireGap l)
  | holdoff (n : TriggerNo) : FallsWithTick (.holdoffExpiry n) (State.holdoffOver n) (State.expireHoldoff n)
  | latch : FallsWithTick .ageLatchSet State.aged State.setAgeLatch

/-- The write access of the row is to this location with this halfword: the location's own row, or a REGISTER_WRITE. -/
def WritesTo (c : Instr) (l : Location) (d : Halfword) : Prop :=
  (∃ a, c = .registerWrite a d ∧ locationAt a = some l) ∨ ∃ a, c = l.writeCommand a d

/-- Everything a command can do to the part (`effect_of_exec`): one case for each kind of row. -/
inductive Effect : Instr → State → State → Prop
  | unchanged (c s) : Effect c s s
  | pinReset (s) : Effect .pinReset s { State.reset with inReset := true, pending := s.pending }
  | release (s) : Effect .resetnRelease s { s with inReset := false }
  | evaluation (e s) : Effect (.decoderEvaluation e) s (s.takeEvaluation e)
  | zChange (e s) : Effect (.indexEdge e) s (s.takeZChange e)
  | levelChange (n s) : Effect (.triggerLevelChange n) s (s.takeLevelChange n)
  | syncChange (s) : Effect .syncEdge s s.takeSyncChange
  | tick (c s) (h : c = .timebaseTick ∨ c = .trimAdjustedTick) : Effect c s s.tick
  | afterTick (c s ready event) (hf : FallsWithTick c ready event) (hr : ready s = true) : Effect c s (event s)
  | beforeTick (c s ready event) (hf : FallsWithTick c ready event) (hn : ready s = false) (hc : s.counted = false)
      (hr : ready s.countTick = true) : Effect c s (event s.countTick)
  | comparison (n s) (h : (s.schedule n).compareDue = true) : Effect (.deadlineComparison n) s (s.compareDeadline n)
  | appendStep (s p k rest) (hp : s.engine.phase = .appending p) (hl : p.left ≠ 0) (hf : s.pool.free = k :: rest) :
      Effect .appendStep s (s.appendEntry p k rest)
  | appendCompletion (s p detail aux) (hp : s.engine.phase = .appending p) (hl : p.left = 0) :
      Effect .appendCompletion s (s.complete .ok detail aux)
  | flushStep (s total) (hp : s.engine.phase = .flushing total) :
      Effect .flushStep s (s.returnHead (axisOf s.engine.unit))
  | flushCompletion (s total) (hp : s.engine.phase = .flushing total)
      (hl : (s.schedule (axisOf s.engine.unit)).list = []) : Effect .flushCompletion s (s.completeFlush total)
  | taken (k u s) (h : s.awaits k u = true) : Effect (Command.row k u) s (k.owner u s)
  | issuedAndTaken (k u s) (h : s.engine.phase = .idle) (hu : u.toNat < k.units) :
      Effect (Command.row k u) s (k.owner u (s.setEngine (s.engine.issue (commandWord k u))))
  | rowWritten (k u s) (h : s.awaits k u = false) : Effect (Command.row k u) s (s.commandWrite (commandWord k u))
  | write (c l d s) (h : WritesTo c l d) : Effect c s (Window.write l d s)
  | read (c l s) (h : l.readCommand = some c) : Effect c s (Window.read l s)

/-- A command row is its owner's event, its write with the owner's event, or its write alone. -/
theorem effect_of_row (k : Command) (u : UnitNo) (s : State) :
    Effect (k.row u) s (State.carryOut k u (k.owner u) s) := by
  obtain ⟨h, e⟩ | ⟨h, hu, e⟩ | ⟨h, e⟩ := s.carryOut_cases k u (k.owner u) <;> rw [e]
  · exact .taken k u s h
  · exact .issuedAndTaken k u s h hu
  · exact .rowWritten k u s h

/-- A row that falls together with a tick is its event after the tick, its event before it, or nothing. -/
theorem effect_of_fallsWithTick {c : Instr} {ready : State → Bool} {event : State → State}
    (h : FallsWithTick c ready event) (s : State) : Effect c s (s.atTick ready event) := by
  obtain ⟨hr, e⟩ | ⟨hn, hc, hr, e⟩ | ⟨_, _, e⟩ := s.atTick_cases ready event <;> rw [e]
  · exact .afterTick c s ready event h hr
  · exact .beforeTick c s ready event h hn hc hr
  · exact .unchanged c s

/-- A write access through a row of its own. -/
theorem effect_of_write (l : Location) (d : Halfword) (s : State) :
    Effect (l.writeCommand 0 d) s (Window.write l d s) :=
  .write _ l d s (.inr ⟨0, rfl⟩)

theorem effect_of_event (c : Instr) (s : State) : Effect c s (event c s) := by
  cases c
  case pinReset => exact .pinReset s
  case resetnRelease => exact .release s
  case decoderEvaluation e => exact .evaluation e s
  case indexEdge e => exact .zChange e s
  case triggerLevelChange n => exact .levelChange n s
  case syncEdge => exact .syncChange s
  case timebaseTick => exact .tick _ s (.inl rfl)
  case trimAdjustedTick =>
    simp only [event]
    split
    · exact .tick _ s (.inr rfl)
    · exact .unchanged _ s
  case deadlineComparison n =>
    simp only [event]
    split
    · exact .comparison n s ‹_›
    · exact .unchanged _ s
  case appendStep =>
    simp only [event, State.stepAppend]
    split
    · split
      · exact .unchanged _ s
      · exact .appendStep s _ _ _ ‹_› ‹_› ‹_›
    · exact .unchanged _ s
  case appendCompletion =>
    simp only [event, State.completeAppend]
    split
    · split
      · exact .appendCompletion s _ _ _ ‹_› ‹_›
      · exact .unchanged _ s
    · exact .unchanged _ s
  case flushStep =>
    simp only [event, State.stepFlush]
    split
    · exact .flushStep s _ ‹_›
    · exact .unchanged _ s
  case flushCompletion =>
    simp only [event, State.endFlush]
    split
    · split
      · exact .flushCompletion s _ ‹_› ‹_›
      · exact .unchanged _ s
    · exact .unchanged _ s
  case registerWrite a d =>
    simp only [event, Window.writeAt]
    split
    · exact .unchanged _ s
    · exact .write _ _ d s (.inl ⟨a, rfl, ‹_›⟩)
  case filterSamplePoint f => exact effect_of_fallsWithTick (.sample f) s
  case widthExpiry l => exact effect_of_fallsWithTick (.width l) s
  case gapExpiry l => exact effect_of_fallsWithTick (.gap l) s
  case holdoffExpiry n => exact effect_of_fallsWithTick (.holdoff n) s
  case ageLatchSet => exact effect_of_fallsWithTick .latch s
  case schedAppend u => exact effect_of_row .schedAppend u s
  case schedSkip u => exact effect_of_row .schedSkip u s
  case schedFlush u => exact effect_of_row .schedFlush u s
  case schedHold u => exact effect_of_row .schedHold u s
  case schedRun u => exact effect_of_row .schedRun u s
  case axisConfig u => exact effect_of_row .axisConfig u s
  case axisStart u => exact effect_of_row .axisStart u s
  case axisStop u => exact effect_of_row .axisStop u s
  case axisResume u => exact effect_of_row .axisResume u s
  case axisSetpos u => exact effect_of_row .axisSetpos u s
  case axisClrerr u => exact effect_of_row .axisClrerr u s
  case axisReset u => exact effect_of_row .axisReset u s
  case homeArm u => exact effect_of_row .homeArm u s
  case homeCancel u => exact effect_of_row .homeCancel u s
  case outSet u => exact effect_of_row .outSet u s
  case outClear u => exact effect_of_row .outClear u s
  case outToggle u => exact effect_of_row .outToggle u s
  case outPulse u => exact effect_of_row .outPulse u s
  case timeSet u => exact effect_of_row .timeSet u s
  case syncArm u => exact effect_of_row .syncArm u s
  case syncDisarm u => exact effect_of_row .syncDisarm u s
  case snapshot u => exact effect_of_row .snapshot u s
  case chipReset u => exact effect_of_row .chipReset u s
  case viewDataRead => exact .read _ .viewData s rfl
  case overwriteCountRead => exact .read _ .overwriteCount s rfl
  case collisionCounterRead l => exact .read _ (.collisions l) s rfl
  case addsCounterRead => exact .read _ .adds s rfl
  case skipsCounterRead => exact .read _ .skips s rfl
  case positionLowRead n => exact .read _ (.axisWindow n 0) s rfl
  case timeLowRead => exact .read _ (.time 0) s rfl
  case readerOpen => exact effect_of_write .jctrl 1 s
  case readerRelease => exact effect_of_write .jctrl 2 s
  case readerDiscard => exact effect_of_write .jctrl 3 s
  case jcfgWrite d => exact effect_of_write .jcfg d s
  case jholdWrite d => exact effect_of_write .jhold d s
  case viewPointerWrite d => exact effect_of_write .viewPointer d s
  case flagsWrite d => exact effect_of_write .flags d s
  case enableWrite d => exact effect_of_write .enable d s
  case stageSelWrite d => exact effect_of_write .stageSel d s
  case stagedEntryWrite k d => exact effect_of_write (.staged k) d s
  case axisStagingWrite k d => exact effect_of_write (.axisStaging k) d s
  case lineConfigWrite l d => exact effect_of_write (.lineConfig l) d s
  case widthWrite l d => exact effect_of_write (.lineWidth l) d s
  case triggerConfigWrite n d => exact effect_of_write (.triggerConfig n) d s
  case holdoffWrite n d => exact effect_of_write (.holdoff n) d s
  case syncConfigWrite d => exact effect_of_write .syncConfig d s
  case trimModeWrite d => exact effect_of_write .trimMode d s
  case commandWrite d => exact effect_of_write .cmd d s

/-- Every answer of a command is one of the effects. -/
theorem effect_of_exec {c : Instr} {s t : State} (h : exec c s = .next t) : Effect c s t := by
  obtain ⟨_, _, rfl⟩ | ⟨_, rfl⟩ := exec_next h
  · exact .unchanged c _
  · exact effect_of_event c s

end Sys2Proof.Machine
end

section
/-! What each event can touch: one frame equation for each event of the table, and a predicate that every event keeps carried
through ticks and commands (R121, R165). -/
namespace Sys2Proof.Machine

/-! ## The events of sample points -/

section
variable (s : State)

theorem State.countStep_frame (n : AxisNo) (h : Option HostAction) (d : Direction) : s.countStep n h d =
    { s with axes := s.axes.set n ((s.axis n).move d), schedules := (s.countStep n h d).schedules
             pool := (s.countStep n h d).pool, lines := (s.countStep n h d).lines
             journal := (s.countStep n h d).journal, interrupts := (s.countStep n h d).interrupts
             bus := (s.countStep n h d).bus } := by
  simp only [State.countStep]
  rw [State.arrival_frame, State.perform, State.offerIf_frame, State.setAxis]

theorem State.phaseError_frame (n : AxisNo) (h : Option HostAction) : s.phaseError n h =
    { s with axes := (s.phaseError n h).axes, journal := (s.phaseError n h).journal
             interrupts := (s.phaseError n h).interrupts, bus := (s.phaseError n h).bus } := by
  simp only [State.phaseError]
  split
  · rw [State.perform, State.offerIf_frame, State.setAxis]; rfl
  · rw [State.perform, State.offerIf_frame, State.setAxis]

/-- The outcome of an evaluation at the pairs as they stand, before inversion (R3). -/
def Axis.outcome (x : Axis) : Decoded := decode x.config.decodeMode x.phase x.filtered

/-- The outcome after inversion is a counting step in this direction (R3, R7). -/
def Axis.StepsTo (d : Direction) (x : Axis) : Prop :=
  x.outcome = if x.config.invert then (if d = .forward then .minus else .plus) else (if d = .forward then .plus else .minus)

/-- The decoder phase of an axis has taken the new pair (R3). -/
def State.takePair (n : AxisNo) (s : State) : State := s.setAxis n { s.axis n with phase := (s.axis n).filtered }

theorem Axis.stepsTo_stepDirection (x : Axis) (plus : Bool) (h : x.outcome = if plus then .plus else .minus) :
    x.StepsTo (stepDirection x.config.invert plus) := by
  unfold Axis.StepsTo
  rw [h]
  cases plus <;> cases x.config.invert <;> rfl

theorem State.evaluate_eq (e : AxisEvent) : s.evaluate e =
    match (s.axis e.axis).outcome with
    | .plus => (s.takePair e.axis).countStep e.axis e.between (stepDirection (s.axis e.axis).config.invert true)
    | .minus => (s.takePair e.axis).countStep e.axis e.between (stepDirection (s.axis e.axis).config.invert false)
    | .phaseError => (s.takePair e.axis).phaseError e.axis e.between
    | .noStep => (s.takePair e.axis).perform e.between
    | .cancelled => (s.takePair e.axis).perform e.between := by
  cases h : (s.axis e.axis).outcome <;> rw [Axis.outcome] at h <;> simp only [State.evaluate, h] <;> rfl

/-- Everything an evaluation can do (R3): a counting step, a phase error, or the new pair alone. -/
theorem State.evaluate_cases (e : AxisEvent) :
    (∃ d, (s.axis e.axis).StepsTo d ∧ s.evaluate e = (s.takePair e.axis).countStep e.axis e.between d) ∨
    ((s.axis e.axis).outcome = .phaseError ∧ s.evaluate e = (s.takePair e.axis).phaseError e.axis e.between) ∨
    (((s.axis e.axis).outcome = .noStep ∨ (s.axis e.axis).outcome = .cancelled) ∧
      s.evaluate e = (s.takePair e.axis).perform e.between) := by
  rw [s.evaluate_eq e]
  cases h : (s.axis e.axis).outcome
  case plus => exact .inl ⟨_, Axis.stepsTo_stepDirection _ true h, rfl⟩
  case minus => exact .inl ⟨_, Axis.stepsTo_stepDirection _ false h, rfl⟩
  case phaseError => exact .inr (.inl ⟨rfl, rfl⟩)
  case noStep => exact .inr (.inr ⟨.inl rfl, rfl⟩)
  case cancelled => exact .inr (.inr ⟨.inr rfl, rfl⟩)

theorem State.takeEvaluation_frame (e : AxisEvent) : s.takeEvaluation e =
    { s with axes := (s.takeEvaluation e).axes, schedules := (s.takeEvaluation e).schedules
             pool := (s.takeEvaluation e).pool, lines := (s.takeEvaluation e).lines
             journal := (s.takeEvaluation e).journal, interrupts := (s.takeEvaluation e).interrupts
             bus := (s.takeEvaluation e).bus } := by
  obtain ⟨_, h⟩ | ⟨_, h⟩ := s.takeEvaluation_cases e
  · rw [h]; rfl
  · rw [h]
    obtain ⟨d, _, h⟩ | ⟨_, h⟩ | ⟨_, h⟩ := s.evaluate_cases e
    · rw [h, State.countStep_frame]; rfl
    · rw [h, State.phaseError_frame]; rfl
    · rw [h]; rfl

theorem State.takeIndex_frame (n : AxisNo) (h : Option HostAction) : s.takeIndex n h =
    { s with axes := (s.takeIndex n h).axes, journal := (s.takeIndex n h).journal
             interrupts := (s.takeIndex n h).interrupts, bus := (s.takeIndex n h).bus } := by
  simp only [State.takeIndex]
  split
  · rw [State.homingLoad, State.perform, State.offerIf_frame]; rfl
  · rw [State.perform, State.offerIf_frame]

theorem State.takeZChange_frame (e : AxisEvent) : s.takeZChange e =
    { s with axes := (s.takeZChange e).axes, journal := (s.takeZChange e).journal
             interrupts := (s.takeZChange e).interrupts, bus := (s.takeZChange e).bus } := by
  obtain ⟨_, h⟩ | ⟨_, _, h⟩ | ⟨_, _, h⟩ := s.takeZChange_cases e <;> rw [h]
  · rfl
  · rfl
  · rw [State.takeIndex_frame]; rfl

theorem State.readyEdge_frame (n : TriggerNo) : s.readyEdge n =
    { s with lines := (s.readyEdge n).lines, triggers := (s.readyEdge n).triggers
             journal := (s.readyEdge n).journal, interrupts := (s.readyEdge n).interrupts } := by
  simp only [State.readyEdge]
  split <;> (rw [State.offerIf_frame]; rfl)

theorem State.takeLevelChange_frame (n : TriggerNo) : s.takeLevelChange n =
    { s with lines := (s.takeLevelChange n).lines, triggers := (s.takeLevelChange n).triggers
             journal := (s.takeLevelChange n).journal, interrupts := (s.takeLevelChange n).interrupts } := by
  obtain ⟨_, h⟩ | ⟨_, _, h⟩ | ⟨_, _, h⟩ := s.takeLevelChange_cases n <;> rw [h]
  · rfl
  · unfold State.takeEdge
    split
    · rw [State.readyEdge_frame]; rfl
    · rfl

theorem State.takeSyncChange_frame : s.takeSyncChange =
    { s with timebase := s.takeSyncChange.timebase, schedules := s.takeSyncChange.schedules
             journal := s.takeSyncChange.journal, interrupts := s.takeSyncChange.interrupts } := by
  obtain ⟨_, h⟩ | ⟨_, _, h⟩ | ⟨_, _, h⟩ := s.takeSyncChange_cases <;> rw [h]
  · rfl
  · unfold State.takeSync
    split
    · rfl
    · rw [State.offerIf_frame]; rfl

/-! ## The other events -/

theorem State.takeSample_frame (f : FilterInput) : s.takeSample f =
    { s with axes := (s.takeSample f).axes, triggers := (s.takeSample f).triggers
             timebase := (s.takeSample f).timebase } := by
  cases f <;> rfl

theorem State.compareDeadline_frame (n : AxisNo) : s.compareDeadline n =
    { s with schedules := (s.compareDeadline n).schedules, pool := (s.compareDeadline n).pool
             journal := (s.compareDeadline n).journal, interrupts := (s.compareDeadline n).interrupts } := by
  obtain h | ⟨k, rest, _, _, _, h⟩ := s.compareDeadline_cases n <;> rw [h]
  · rfl
  · rw [State.expire, State.departHead_frame]; rfl

/-- A command write reaches the engine and the interrupt unit alone. -/
theorem State.commandWrite_frame (d : Halfword) : s.commandWrite d =
    { s with engine := (s.commandWrite d).engine, interrupts := (s.commandWrite d).interrupts } := by
  obtain ⟨_, h⟩ | ⟨_, c, _, _, h⟩ | ⟨_, code, detail, aux, _, h⟩ := s.commandWrite_cases d <;> rw [h] <;> rfl

/-- Everything a write to JCTRL can do: a host action, or nothing (R148). -/
theorem State.writeControl_cases (d : Halfword) : (∃ a, s.writeControl d = s.perform (some a)) ∨ s.writeControl d = s := by
  unfold State.writeControl
  split
  · exact .inl ⟨_, rfl⟩
  split
  · exact .inl ⟨_, rfl⟩
  split
  · exact .inl ⟨_, rfl⟩
  · exact .inr rfl

/-- A host write reaches neither the axes nor the schedules with their pool. -/
theorem Window.write_frame (l : Location) (d : Halfword) : Window.write l d s =
    { s with lines := (Window.write l d s).lines, triggers := (Window.write l d s).triggers
             timebase := (Window.write l d s).timebase, journal := (Window.write l d s).journal
             engine := (Window.write l d s).engine, interrupts := (Window.write l d s).interrupts
             bus := (Window.write l d s).bus } := by
  cases l
  case cmd =>
    simp only [Window.write]
    rw [State.commandWrite_frame]
  case stageSel =>
    simp only [Window.write, State.writeStageSel]
    split <;> rfl
  case staged k =>
    simp only [Window.write, State.writeStaged]
    split <;> rfl
  case axisStaging k =>
    simp only [Window.write, State.writeAxisStaging]
    split <;> rfl
  case viewPointer =>
    simp only [Window.write, State.writeViewPointer]
    split <;> rfl
  case jctrl =>
    simp only [Window.write]
    obtain ⟨a, h⟩ | h := s.writeControl_cases d
    · rw [h]; rfl
    · rw [h]
  all_goals rfl

/-- Everything a host read can do to the part but drive D (R183): the side effect of R105, R124, R142, R150, R186, R187. -/
theorem Window.read_cases (l : Location) :
    (∃ v, Window.read l s = s.drive v) ∨ (∃ n, Window.read l s = s.readPosition n) ∨ Window.read l s = s.readTime ∨
    (∃ i, Window.read l s = s.readCollisions i) ∨ Window.read l s = s.readAdds ∨ Window.read l s = s.readSkips ∨
    Window.read l s = s.readOverwrites ∨ Window.read l s = s.readView := by
  unfold Window.read
  split
  · exact .inr (.inl ⟨_, rfl⟩)
  · exact .inr (.inr (.inl rfl))
  · exact .inr (.inr (.inr (.inl ⟨_, rfl⟩)))
  · exact .inr (.inr (.inr (.inr (.inl rfl))))
  · exact .inr (.inr (.inr (.inr (.inr (.inl rfl)))))
  · exact .inr (.inr (.inr (.inr (.inr (.inr (.inl rfl))))))
  · exact .inr (.inr (.inr (.inr (.inr (.inr (.inr rfl))))))
  · exact .inl ⟨_, rfl⟩

theorem Window.read_frame (l : Location) : Window.read l s =
    { s with lines := (Window.read l s).lines, timebase := (Window.read l s).timebase
             journal := (Window.read l s).journal, bus := (Window.read l s).bus } := by
  obtain ⟨v, h⟩ | ⟨n, h⟩ | h | ⟨i, h⟩ | h | h | h | h := Window.read_cases s l <;> (rw [h]; rfl)

/-! ## The owner's events -/

/-- The owners' events that complete on the part as it is, or on one update of it. -/
theorem State.startAxis_cases (n : AxisNo) :
    ((s.axis n).state = .stopped ∧ s.startAxis n =
      (s.setAxis n { s.axis n with state := .counting, phase := (s.axis n).filtered }).complete .ok 0 0) ∨
    ((s.axis n).state ≠ .stopped ∧ s.startAxis n = s.complete .wrongState 0 0) := by
  by_cases h : (s.axis n).state = .stopped
  · exact .inl ⟨h, by simp only [State.startAxis, if_pos h]⟩
  · exact .inr ⟨h, by simp only [State.startAxis, if_neg h]⟩

theorem State.resumeAxis_cases (n : AxisNo) :
    ((s.axis n).state = .faulted ∧ s.resumeAxis n =
      ((s.setAxis n { s.axis n with state := .counting, phase := (s.axis n).filtered, errorSince := 0 }).takeUp n).complete
        .ok 0 0) ∨
    ((s.axis n).state ≠ .faulted ∧ s.resumeAxis n = s.complete .wrongState 0 0) := by
  by_cases h : (s.axis n).state = .faulted
  · exact .inl ⟨h, by simp only [State.resumeAxis, if_pos h]⟩
  · exact .inr ⟨h, by simp only [State.resumeAxis, if_neg h]⟩

theorem State.stopAxis_cases (n : AxisNo) :
    ((s.axis n).state = .stopped ∧ s.stopAxis n = s.complete .wrongState 0 0) ∨
    ((s.axis n).state = .counting ∧ s.stopAxis n =
      (s.setAxis n { s.axis n with state := .stopped, errorSince := 0 }).complete .ok 0 0) ∨
    ((s.axis n).state = .faulted ∧ s.stopAxis n =
      ((s.setAxis n { s.axis n with state := .stopped, errorSince := 0 }).takeUp n).complete .ok 0 0) := by
  cases h : (s.axis n).state <;> simp [State.stopAxis, h]

theorem State.setPosition_cases (n : AxisNo) :
    (∃ p r, ((s.axis n).config.range = .linear ∧ r = (s.axis n).revolution ∨
        (s.axis n).config.range = .rotary ∧ r = 0 ∧ inRevolution p (s.axis n).config.modulus = true) ∧
      s.setPosition n = (s.setAxis n ((s.axis n).load p r)).complete .ok 0 0) ∨
    s.setPosition n = s.complete .badArg 0 0 := by
  cases hr : (s.axis n).config.range with
  | linear => exact .inl ⟨_, _, .inl ⟨rfl, rfl⟩, State.setPosition_linear hr⟩
  | rotary =>
    by_cases hv : inRevolution (word32 (s.arg 0) (s.arg 1)) (s.axis n).config.modulus = true
    · exact .inl ⟨_, _, .inr ⟨rfl, rfl, hv⟩, State.setPosition_rotary_inside hr hv⟩
    · exact .inr (State.setPosition_rotary_outside hr hv)

theorem State.configureAxis_cases (n : AxisNo) :
    ((s.axis n).state = .stopped ∧ (s.schedule n).list = [] ∧ (s.schedule n).draining = false ∧
      s.engine.axisStaging.firstBad = none ∧ s.configureAxis n =
        (s.setAxis n ((s.axis n).configure s.engine.axisStaging.toConfig)).complete .ok 0 0) ∨
    ∃ code detail, s.configureAxis n = s.complete code detail 0 := by
  by_cases h : (s.axis n).state ≠ .stopped ∨ (s.schedule n).list ≠ [] ∨ (s.schedule n).draining = true
  · exact .inr ⟨.wrongState, 0, by simp only [State.configureAxis, if_pos h]⟩
  · obtain ⟨h1, h2, h3⟩ : (s.axis n).state = .stopped ∧ (s.schedule n).list = [] ∧ (s.schedule n).draining = false := by
      simpa [not_or] using h
    cases hb : s.engine.axisStaging.firstBad with
    | none => exact .inl ⟨h1, h2, h3, rfl, by simp only [State.configureAxis, if_neg h, hb]⟩
    | some k => exact .inr ⟨.badArg, half k, by simp only [State.configureAxis, if_neg h, hb]⟩

theorem State.armHoming_cases (n : AxisNo) :
    (∃ code detail, s.armHoming n = s.complete code detail 0) ∨
    ∃ detail, s.armHoming n = (s.setAxis n { s.axis n with homing := .seeking }).complete .ok detail 0 := by
  by_cases h : (s.axis n).homing = .seeking
  · exact .inl ⟨_, _, State.armHoming_of_seeking h⟩
  · exact .inr ⟨_, State.armHoming_of_ne_seeking h⟩

theorem State.cancelHoming_cases (n : AxisNo) :
    (∃ code detail, s.cancelHoming n = s.complete code detail 0) ∨
    ((s.axis n).homing = .seeking ∧
      ∃ detail, s.cancelHoming n = (s.setAxis n { s.axis n with homing := .unreferenced }).complete .ok detail 0) := by
  by_cases h : (s.axis n).homing = .seeking
  · exact .inr ⟨h, _, State.cancelHoming_of_seeking h⟩
  · exact .inl ⟨_, _, State.cancelHoming_of_ne_seeking h⟩

theorem State.disarmSync_cases :
    (∃ code, s.disarmSync = s.complete code 0 0) ∨
    s.disarmSync = (s.setTimebase { s.timebase with syncState := .free }).complete .ok 1 0 := by
  cases h : s.timebase.syncState with
  | free => exact .inl ⟨_, State.disarmSync_of_free h⟩
  | armed => exact .inr (State.disarmSync_of_armed h)

/-- Everything the owner of SCHED_APPEND can do (R40): refuse the batch, or accept it. -/
theorem State.acceptAppend_cases (n : AxisNo) :
    (∃ code detail aux, s.acceptAppend n = s.complete code detail aux) ∨
    (s.appendRefusal n = none ∧ s.acceptAppend n = s.setEngine { s.engine with
      phase := .appending { next := (s.arg 0).toNat, left := (s.arg 1).toNat, first := none } }) := by
  unfold State.acceptAppend
  cases h : s.appendRefusal n with
  | none => exact .inr ⟨rfl, rfl⟩
  | some r => exact .inl ⟨_, _, _, rfl⟩

theorem State.acceptFlush_cases (n : AxisNo) :
    ((s.schedule n).list = [] ∧ s.acceptFlush n = s.complete .ok 0 0) ∨
    ((s.schedule n).list ≠ [] ∧ s.acceptFlush n = (s.setSchedule n { s.schedule n with draining := true }).setEngine
      { s.engine with phase := .flushing (s.schedule n).list.length }) := by
  by_cases h : (s.schedule n).list = []
  · exact .inl ⟨h, by simp only [State.acceptFlush, if_pos h]⟩
  · exact .inr ⟨h, by simp only [State.acceptFlush, if_neg h]⟩

theorem State.skipHead_cases (n : AxisNo) :
    ((s.schedule n).list = [] ∧ s.skipHead n = s.complete .wrongState 0 0) ∨
    ∃ k rest, (s.schedule n).list = k :: rest ∧
      s.skipHead n = (s.departHead n).complete .ok (half k.val) (half rest.length) := by
  cases h : (s.schedule n).list with
  | nil => exact .inl ⟨rfl, State.skipHead_nil h⟩
  | cons k rest => exact .inr ⟨k, rest, rfl, State.skipHead_cons h⟩

end

/-! ## Predicates that every event keeps -/

/-- The events that a tick of CLKIN may take keep the predicate. -/
structure KeptByEvents (P : State → Prop) : Prop where
  evaluation : ∀ e s, P s → P (s.takeEvaluation e)
  zChange : ∀ e s, P s → P (s.takeZChange e)
  levelChange : ∀ n s, P s → P (s.takeLevelChange n)
  syncChange : ∀ s, P s → P s.takeSyncChange
  holdoff : ∀ n s, P s → s.holdoffOver n = true → P (s.expireHoldoff n)
  width : ∀ l s, P s → s.widthOver l = true → P (s.expireWidth l)
  gap : ∀ l s, P s → s.gapOver l = true → P (s.expireGap l)
  latch : ∀ s, P s → s.aged = true → P s.setAgeLatch
  count : ∀ s, P s → P s.count
  advance : ∀ s, P s → P s.advance
  sample : ∀ f s, P s → P (s.takeSample f)

section
variable {P : State → Prop} {s : State}

theorem KeptByEvents.takeSampled (k : KeptByEvents P) (h : P s) : P s.takeSampled :=
  s.takeSampled_keeps P k.evaluation k.zChange k.levelChange k.syncChange h

theorem KeptByEvents.countTick (k : KeptByEvents P) (h : P s) : P s.countTick := by
  unfold State.countTick
  split
  · exact h
  · exact k.count _ (State.takeExpiries_keeps _ P k.holdoff k.width k.gap k.latch (k.takeSampled h))

theorem KeptByEvents.tick (k : KeptByEvents P) (h : P s) : P s.tick :=
  k.advance _ (k.takeSampled (k.countTick h))

theorem KeptByEvents.fallsWithTick (k : KeptByEvents P) {c : Instr} {ready : State → Bool} {event : State → State}
    (hf : FallsWithTick c ready event) (hr : ready s = true) (h : P s) : P (event s) := by
  cases hf with
  | sample f => exact k.sample f s h
  | width l => exact k.width l s h hr
  | gap l => exact k.gap l s h hr
  | holdoff n => exact k.holdoff n s h hr
  | latch => exact k.latch s h hr

/-- Every event of the table keeps the predicate. -/
structure Kept (P : State → Prop) : Prop extends KeptByEvents P where
  pinReset : ∀ q, P { State.reset with inReset := true, pending := q }
  release : ∀ s, P s → P { s with inReset := false }
  comparison : ∀ n s, P s → P (s.compareDeadline n)
  appendStep : ∀ s p k rest, P s → s.engine.phase = .appending p → p.left ≠ 0 → s.pool.free = k :: rest →
    P (s.appendEntry p k rest)
  appendCompletion : ∀ s p detail aux, P s → s.engine.phase = .appending p → p.left = 0 → P (s.complete .ok detail aux)
  flushStep : ∀ s total, P s → s.engine.phase = .flushing total → P (s.returnHead (axisOf s.engine.unit))
  flushCompletion : ∀ s total, P s → s.engine.phase = .flushing total →
    (s.schedule (axisOf s.engine.unit)).list = [] → P (s.completeFlush total)
  owner : ∀ k u s, P s → s.awaits k u = true → P (k.owner u s)
  issue : ∀ d s, P s → s.engine.phase = .idle → P (s.setEngine (s.engine.issue d))
  write : ∀ l d s, P s → P (Window.write l d s)
  read : ∀ l s, P s → P (Window.read l s)

theorem State.awaits_issue (k : Command) (u : UnitNo) (s : State) :
    (s.setEngine (s.engine.issue (commandWord k u))).awaits k u = true := by
  simp [State.awaits, Engine.issue]

theorem Kept.effect (k : Kept P) {c : Instr} {s t : State} (h : Effect c s t) (hs : P s) : P t := by
  cases h with
  | unchanged => exact hs
  | pinReset => exact k.pinReset _
  | release => exact k.release _ hs
  | evaluation e => exact k.evaluation e _ hs
  | zChange e => exact k.zChange e _ hs
  | levelChange n => exact k.levelChange n _ hs
  | syncChange => exact k.syncChange _ hs
  | tick => exact k.tick hs
  | afterTick _ _ ready event hf hr => exact k.fallsWithTick hf hr hs
  | beforeTick _ _ ready event hf _ _ hr => exact k.fallsWithTick hf hr (k.countTick hs)
  | comparison n => exact k.comparison n _ hs
  | appendStep _ p slot rest hp hl hf => exact k.appendStep _ p slot rest hs hp hl hf
  | appendCompletion _ p detail aux hp hl => exact k.appendCompletion _ p detail aux hs hp hl
  | flushStep _ total hp => exact k.flushStep _ total hs hp
  | flushCompletion _ total hp hl => exact k.flushCompletion _ total hs hp hl
  | taken c u _ ha => exact k.owner c u _ hs ha
  | issuedAndTaken c u _ hi _ => exact k.owner c u _ (k.issue _ _ hs hi) (State.awaits_issue c u s)
  | rowWritten c u => exact k.write .cmd _ _ hs
  | write _ l d => exact k.write l d _ hs
  | read _ l => exact k.read l _ hs

theorem Kept.exec (k : Kept P) {c : Instr} {s t : State} (h : exec c s = .next t) (hs : P s) : P t :=
  k.effect (effect_of_exec h) hs

/-- A predicate that does not see the queue and that every event keeps is kept by every step. -/
theorem Kept.step (k : Kept P) (hq : ∀ s q, P s → P { s with pending := q }) {s t : State} (h : step s = .next t)
    (hs : P s) : P t := by
  unfold Machine.step at h
  cases hp : s.pending with
  | nil =>
    rw [hp] at h
    exact Host.Outcome.next.inj h ▸ hs
  | cons c rest =>
    rw [hp] at h
    exact k.exec h (hq s rest hs)

end

end Sys2Proof.Machine
end

section
/-! The interrupt unit under every event: an event only raises flags, but for the two writes to the unit and the resets of the
part (R174, R176, R178). -/
namespace Sys2Proof.Machine

/-- The second unit is the first after flags have been raised. -/
inductive Interrupts.Raised (i : Interrupts) : Interrupts → Prop
  | refl : Raised i i
  | raise {j : Interrupts} (f : Flag) (h : Raised i j) : Raised i (j.raise f)

section
variable {i j : Interrupts}

theorem Interrupts.Raised.raiseIf (h : i.Raised j) (b : Bool) (f : Flag) : i.Raised (j.raiseIf b f) := by
  cases b
  · exact h
  · exact h.raise f

theorem Interrupts.Raised.enables (h : i.Raised j) : j.enables = i.enables := by
  induction h with
  | refl => rfl
  | raise f _ ih => exact ih

theorem Interrupts.Raised.isSet (h : i.Raised j) (f : Flag) (hf : i.isSet f = true) : j.isSet f = true := by
  induction h with
  | refl => exact hf
  | raise g _ ih => rw [Interrupts.raise_isSet, ih]; rfl

theorem Interrupts.Raised.sound (h : i.Raised j) (hi : i.Sound) : j.Sound := by
  induction h with
  | refl => exact hi
  | raise f _ ih => exact (Interrupts.raise_ready f _).trans ih

end

section
variable {i : Interrupts} {s : State}

/-! ## The shared operations -/

theorem State.raised_offer (h : i.Raised s.interrupts) (src : Source) (c : Content) :
    i.Raised (s.offer src c).interrupts := h.raiseIf _ _

theorem State.raised_offerIf (h : i.Raised s.interrupts) (b : Bool) (src : Source) (c : Content) :
    i.Raised (s.offerIf b src c).interrupts := by
  obtain e | ⟨_, e⟩ := s.offerIf_cases b src c <;> rw [e]
  · exact h
  · exact State.raised_offer h src c

theorem State.raised_request (h : i.Raised s.interrupts) (l : LineNo) (k : RequestKind) :
    i.Raised (s.request l k).interrupts := h.raiseIf _ _

theorem State.raised_complete (h : i.Raised s.interrupts) (code : ResultCode) (detail aux : BitVec 16) :
    i.Raised (s.complete code detail aux).interrupts := (h.raise _).raiseIf _ _

theorem State.raised_departHead (h : i.Raised s.interrupts) (n : AxisNo) : i.Raised (s.departHead n).interrupts := by
  have e : (s.returnHead n).interrupts = s.interrupts := by rw [s.returnHead_frame n]
  simp only [State.departHead]
  rw [e]
  exact h.raiseIf _ _

theorem State.raised_sendOutput (h : i.Raised s.interrupts) (e : Entry) : i.Raised (s.sendOutput e).interrupts := by
  obtain ⟨_, he⟩ | ⟨q, _, he⟩ := s.sendOutput_cases e <;> rw [he]
  · exact h
  · exact h.raiseIf _ _

theorem State.raised_fire (h : i.Raised s.interrupts) (n : AxisNo) (k : Slot) : i.Raised (s.fire n k).interrupts := by
  have ht := State.raised_offerIf (State.raised_sendOutput h (s.entry k)) ((s.entry k).record ≠ .none) (.schedule n)
    (s.entryRecord .compare (s.axis n).sampledAt n k ((s.entry k).remaining - 1)
      (if (s.entry k).record = .gang then some s.gang else none))
  simp only [State.fire]
  split
  · exact State.raised_departHead (s := State.setEntry _ _ _) ht n
  · exact ht

theorem State.raised_arrival (h : i.Raised s.interrupts) (n : AxisNo) : i.Raised (s.arrival n).interrupts := by
  obtain e | ⟨k, _, _, _, _, _, e⟩ := s.arrival_cases n <;> rw [e]
  · exact h
  · exact State.raised_fire h n k

/-- What a host action between two records leaves is what was there before it. -/
theorem State.raised_perform (h : i.Raised s.interrupts) (a : Option HostAction) : i.Raised (s.perform a).interrupts := h

theorem State.raised_setAxis (h : i.Raised s.interrupts) (n : AxisNo) (x : Axis) : i.Raised (s.setAxis n x).interrupts := h

/-! ## The events of a tick -/

theorem State.raised_countStep (h : i.Raised s.interrupts) (n : AxisNo) (a : Option HostAction) (d : Direction) :
    i.Raised (s.countStep n a d).interrupts :=
  State.raised_arrival (State.raised_perform (State.raised_offerIf (State.raised_setAxis h n _) _ _ _) a) n

theorem State.raised_phaseError (h : i.Raised s.interrupts) (n : AxisNo) (a : Option HostAction) :
    i.Raised (s.phaseError n a).interrupts := by
  simp only [State.phaseError]
  split
  · exact (State.raised_offer (State.raised_perform (State.raised_offerIf (State.raised_setAxis h n _) _ _ _) a) _ _).raise _
  · exact State.raised_perform (State.raised_offerIf (State.raised_setAxis h n _) _ _ _) a

theorem State.raised_takeIndex (h : i.Raised s.interrupts) (n : AxisNo) (a : Option HostAction) :
    i.Raised (s.takeIndex n a).interrupts := by
  have ht := State.raised_perform (State.raised_offerIf h (s.axis n).config.recordIndex (.indexUnit n) (s.indexRecord n)) a
  simp only [State.takeIndex]
  split
  · exact State.raised_offer (State.raised_setAxis ht n _) _ _
  · exact ht

theorem State.raised_readyEdge (h : i.Raised s.interrupts) (n : TriggerNo) : i.Raised (s.readyEdge n).interrupts := by
  have ht := State.raised_offerIf h (s.trigger n).snap (.trigger n) (s.triggerRecord n)
  simp only [State.readyEdge]
  split
  · exact ht.raiseIf _ _
  · exact ht

theorem State.raised_takeEvaluation (h : i.Raised s.interrupts) (e : AxisEvent) :
    i.Raised (s.takeEvaluation e).interrupts := by
  obtain ⟨_, he⟩ | ⟨_, he⟩ := s.takeEvaluation_cases e <;> rw [he]
  · exact h
  have hp : i.Raised (s.takePair e.axis).interrupts := h
  obtain ⟨d, _, he⟩ | ⟨_, he⟩ | ⟨_, he⟩ := s.evaluate_cases e <;> rw [he]
  · exact State.raised_countStep hp _ _ _
  · exact State.raised_phaseError hp _ _
  · exact hp

theorem State.raised_takeZChange (h : i.Raised s.interrupts) (e : AxisEvent) :
    i.Raised (s.takeZChange e).interrupts := by
  obtain ⟨_, he⟩ | ⟨_, _, he⟩ | ⟨_, _, he⟩ := s.takeZChange_cases e <;> rw [he]
  · exact h
  · exact h
  · exact State.raised_takeIndex (State.raised_setAxis h _ _) _ _

theorem State.raised_takeLevelChange (h : i.Raised s.interrupts) (n : TriggerNo) :
    i.Raised (s.takeLevelChange n).interrupts := by
  obtain ⟨_, he⟩ | ⟨_, _, he⟩ | ⟨_, _, he⟩ := s.takeLevelChange_cases n <;> rw [he]
  · exact h
  · exact h
  · unfold State.takeEdge
    split
    · exact State.raised_readyEdge (s := State.setTrigger _ _ _) h n
    · exact h

theorem State.raised_takeSync (h : i.Raised s.interrupts) : i.Raised s.takeSync.interrupts := by
  unfold State.takeSync
  split
  · exact (Interrupts.Raised.raiseIf h _ _).raise _
  · exact State.raised_offerIf h _ _ _

theorem State.raised_takeSyncChange (h : i.Raised s.interrupts) : i.Raised s.takeSyncChange.interrupts := by
  obtain ⟨_, he⟩ | ⟨_, _, he⟩ | ⟨_, _, he⟩ := s.takeSyncChange_cases <;> rw [he]
  · exact h
  · exact h
  · exact State.raised_takeSync (s := State.setTimebase _ _) h

/-- The events of a tick only raise flags. -/
theorem raised_keptByEvents (i : Interrupts) : KeptByEvents (fun s => i.Raised s.interrupts) where
  evaluation e _ h := State.raised_takeEvaluation h e
  zChange e _ h := State.raised_takeZChange h e
  levelChange n _ h := State.raised_takeLevelChange h n
  syncChange _ h := State.raised_takeSyncChange h
  holdoff _ _ h _ := h
  width _ _ h _ := h
  gap _ _ h _ := h
  latch _ h _ := h
  count _ h := h
  advance _ h := h
  sample f s h := by rw [s.takeSample_frame f]; exact h

/-! ## The other events -/

theorem State.raised_compareDeadline (h : i.Raised s.interrupts) (n : AxisNo) :
    i.Raised (s.compareDeadline n).interrupts := by
  obtain e | ⟨k, rest, _, _, _, e⟩ := s.compareDeadline_cases n <;> rw [e]
  · exact h
  · exact State.raised_departHead (State.raised_offer (s := State.setSchedule _ _ _) h _ _) n

theorem State.raised_commandWrite (h : i.Raised s.interrupts) (d : Halfword) :
    i.Raised (s.commandWrite d).interrupts := by
  obtain ⟨_, e⟩ | ⟨_, c, _, _, e⟩ | ⟨_, code, detail, aux, _, e⟩ := s.commandWrite_cases d <;> rw [e]
  · exact h.raise _
  · exact h
  · exact State.raised_complete (s := State.setEngine _ _) h code detail aux

/-- Every owner's event but that of CHIP_RESET only raises flags. -/
theorem State.raised_owner (h : i.Raised s.interrupts) (k : Command) (u : UnitNo) (hk : k ≠ .chipReset) :
    i.Raised (k.owner u s).interrupts := by
  have done : ∀ {t : State} (code detail aux), i.Raised t.interrupts → i.Raised (t.complete code detail aux).interrupts :=
    fun _ _ _ ht => State.raised_complete ht _ _ _
  cases k <;> simp only [Command.owner]
  case schedAppend =>
    obtain ⟨_, _, _, e⟩ | ⟨_, e⟩ := s.acceptAppend_cases (axisOf u) <;> rw [e]
    · exact done _ _ _ h
    · exact h
  case schedSkip =>
    obtain ⟨_, e⟩ | ⟨k, rest, _, e⟩ := s.skipHead_cases (axisOf u) <;> rw [e]
    · exact done _ _ _ h
    · exact done _ _ _ (State.raised_departHead h _)
  case schedFlush =>
    obtain ⟨_, e⟩ | ⟨_, e⟩ := s.acceptFlush_cases (axisOf u) <;> rw [e]
    · exact done _ _ _ h
    · exact h
  case schedHold => exact done (t := State.setSchedule _ _ _) _ _ _ h
  case schedRun => exact done (t := State.setSchedule _ _ _) _ _ _ h
  case axisConfig =>
    obtain ⟨_, _, _, _, e⟩ | ⟨_, _, e⟩ := s.configureAxis_cases (axisOf u) <;> rw [e]
    · exact done (t := State.setAxis _ _ _) _ _ _ h
    · exact done _ _ _ h
  case axisStart =>
    obtain ⟨_, e⟩ | ⟨_, e⟩ := s.startAxis_cases (axisOf u) <;> rw [e]
    · exact done (t := State.setAxis _ _ _) _ _ _ h
    · exact done _ _ _ h
  case axisStop =>
    obtain ⟨_, e⟩ | ⟨_, e⟩ | ⟨_, e⟩ := s.stopAxis_cases (axisOf u) <;> rw [e]
    · exact done _ _ _ h
    · exact done (t := State.setAxis _ _ _) _ _ _ h
    · exact done (t := State.takeUp _ _) _ _ _ h
  case axisResume =>
    obtain ⟨_, e⟩ | ⟨_, e⟩ := s.resumeAxis_cases (axisOf u) <;> rw [e]
    · exact done (t := State.takeUp _ _) _ _ _ h
    · exact done _ _ _ h
  case axisSetpos =>
    obtain ⟨_, _, _, e⟩ | e := s.setPosition_cases (axisOf u) <;> rw [e]
    · exact done (t := State.setAxis _ _ _) _ _ _ h
    · exact done _ _ _ h
  case axisClrerr => exact done (t := State.setAxis _ _ _) _ _ _ h
  case axisReset => exact done (t := State.setPool _ _) _ _ _ h
  case homeArm =>
    obtain ⟨_, _, e⟩ | ⟨_, e⟩ := s.armHoming_cases (axisOf u) <;> rw [e]
    · exact done _ _ _ h
    · exact done (t := State.setAxis _ _ _) _ _ _ h
  case homeCancel =>
    obtain ⟨_, _, e⟩ | ⟨_, _, e⟩ := s.cancelHoming_cases (axisOf u) <;> rw [e]
    · exact done _ _ _ h
    · exact done (t := State.setAxis _ _ _) _ _ _ h
  case outSet => exact done _ _ _ (State.raised_request h _ _)
  case outClear => exact done _ _ _ (State.raised_request h _ _)
  case outToggle => exact done _ _ _ (State.raised_request h _ _)
  case outPulse => exact done _ _ _ (State.raised_request h _ _)
  case timeSet =>
    rw [State.setTime]
    exact done _ _ _ (State.raised_offer (s := s.loadTime s.timeArg) h _ _)
  case syncArm => exact done (t := State.setTimebase _ _) _ _ _ h
  case syncDisarm =>
    obtain ⟨_, e⟩ | e := s.disarmSync_cases <;> rw [e]
    · exact done _ _ _ h
    · exact done (t := State.setTimebase _ _) _ _ _ h
  case snapshot => exact done _ _ _ (State.raised_offer h _ _)
  case chipReset => exact absurd rfl hk

/-- Every host write but those to FLAGS and ENABLE only raises flags. -/
theorem Window.raised_write (h : i.Raised s.interrupts) (l : Location) (d : Halfword) (hf : l ≠ .flags)
    (he : l ≠ .enable) : i.Raised (Window.write l d s).interrupts := by
  cases l
  case flags => exact absurd rfl hf
  case enable => exact absurd rfl he
  case cmd => exact State.raised_commandWrite h d
  case stageSel =>
    simp only [Window.write, State.writeStageSel]
    split <;> exact h
  case staged k =>
    simp only [Window.write, State.writeStaged]
    split <;> exact h
  case axisStaging k =>
    simp only [Window.write, State.writeAxisStaging]
    split <;> exact h
  case viewPointer =>
    simp only [Window.write, State.writeViewPointer]
    split <;> exact h
  case jctrl =>
    obtain ⟨a, e⟩ | e := s.writeControl_cases d <;> simp only [Window.write, e] <;> exact h
  all_goals exact h

end

/-- The row writes FLAGS or ENABLE, or it is a reset of the part. -/
def TouchesInterrupts (c : Instr) : Prop :=
  c = .pinReset ∨ (∃ u, c = .chipReset u) ∨ ∃ d, WritesTo c .flags d ∨ WritesTo c .enable d

/-- Every row but the writes to FLAGS and ENABLE and the resets of the part only raises flags. -/
theorem Effect.raised {c : Instr} {s t : State} (h : Effect c s t) (hc : ¬ TouchesInterrupts c) :
    s.interrupts.Raised t.interrupts := by
  have k := raised_keptByEvents s.interrupts
  have h0 : s.interrupts.Raised s.interrupts := .refl
  have chip : ∀ q u, Command.row q u = c → q ≠ .chipReset := fun q u e hq => hc (.inr (.inl ⟨u, by rw [← e, hq]; rfl⟩))
  cases h with
  | unchanged => exact h0
  | pinReset => exact absurd (.inl rfl) hc
  | release => exact h0
  | evaluation e => exact k.evaluation e _ h0
  | zChange e => exact k.zChange e _ h0
  | levelChange n => exact k.levelChange n _ h0
  | syncChange => exact k.syncChange _ h0
  | tick => exact k.tick h0
  | afterTick _ _ ready event hf hr => exact k.fallsWithTick hf hr h0
  | beforeTick _ _ ready event hf _ _ hr => exact k.fallsWithTick hf hr (k.countTick h0)
  | comparison n => exact State.raised_compareDeadline h0 n
  | appendStep => exact h0
  | appendCompletion => exact State.raised_complete h0 _ _ _
  | flushStep => rw [s.returnHead_frame]; exact h0
  | flushCompletion _ total => exact State.raised_complete (State.raised_offer (s := State.setSchedule _ _ _) h0 _ _) _ _ _
  | taken q u => exact State.raised_owner h0 q u (chip q u rfl)
  | issuedAndTaken q u =>
    exact State.raised_owner (s := s.setEngine (s.engine.issue (commandWord q u))) h0 q u (chip q u rfl)
  | rowWritten q u => exact State.raised_commandWrite h0 _
  | write _ l d _ hw =>
    refine Window.raised_write h0 l d ?_ ?_
    · rintro rfl; exact hc (.inr (.inr ⟨d, .inl hw⟩))
    · rintro rfl; exact hc (.inr (.inr ⟨d, .inr hw⟩))
  | read _ l => rw [Window.read_frame]; exact h0

/-! ## The rows that write the interrupt unit -/

theorem WritesTo.flags {c : Instr} {d : Halfword} (h : WritesTo c .flags d) (hw : c.wellFormed = true) : c = .flagsWrite d := by
  obtain ⟨a, rfl, ha⟩ | ⟨a, rfl⟩ := h
  · have : ∀ a : Address, locationAt a = some .flags → plainRegister a = false ∧ a ≠ 0x70 := by decide
    obtain ⟨hp, hne⟩ := this a ha
    simp only [Instr.wellFormed, hp, hne, decide_false, Bool.false_and, Bool.or_false] at hw
    cases hw
  · rfl

theorem WritesTo.enable {c : Instr} {d : Halfword} (h : WritesTo c .enable d) (hw : c.wellFormed = true) :
    c = .enableWrite d := by
  obtain ⟨a, rfl, ha⟩ | ⟨a, rfl⟩ := h
  · have : ∀ a : Address, locationAt a = some .enable → plainRegister a = false ∧ a ≠ 0x70 := by decide
    obtain ⟨hp, hne⟩ := this a ha
    simp only [Instr.wellFormed, hp, hne, decide_false, Bool.false_and, Bool.or_false] at hw
    cases hw
  · rfl

/-- Settles O52: a row that is no reset of the part writes FLAGS, writes ENABLE, or only raises flags. -/
theorem flagsAndEnablesAreKeptByEverythingElse : Obligations.FlagsAndEnablesAreKeptByEverythingElse := by
  intro c s t hw h hp hchip
  by_cases hc : TouchesInterrupts c
  · obtain rfl | ⟨u, rfl⟩ | ⟨d, hd | hd⟩ := hc
    · exact absurd rfl hp
    · exact absurd rfl (hchip u)
    · obtain rfl := hd.flags hw
      have ht : t.interrupts = s.interrupts ∨ t.interrupts = s.interrupts.clear d := by
        obtain ⟨_, _, rfl⟩ | ⟨_, rfl⟩ := exec_next h
        · exact .inl rfl
        · exact .inr rfl
      obtain e | e := ht <;> rw [e]
      · exact ⟨fun hne => absurd rfl hne, fun f hs hn => by rw [hs] at hn; cases hn⟩
      · refine ⟨fun hne => absurd rfl hne, fun f hs hn => ⟨d, rfl, ?_⟩⟩
        rw [Interrupts.clear_isSet, hs] at hn
        simpa using hn
    · obtain rfl := hd.enable hw
      refine ⟨fun _ => ⟨d, rfl⟩, fun f hs hn => ?_⟩
      have ht : t.interrupts.flags = s.interrupts.flags := by
        obtain ⟨_, _, rfl⟩ | ⟨_, rfl⟩ := exec_next h <;> rfl
      rw [Interrupts.isSet, ht] at hn
      exact absurd (hs.symm.trans hn) (by decide)
  · have hr := (effect_of_exec h).raised hc
    exact ⟨fun hne => absurd hr.enables hne, fun f hs hn => absurd ((hr.isSet f hs).symm.trans hn) (by decide)⟩

end Sys2Proof.Machine
end

section
/-! The command engine under every event: the result stands, and an executing command goes on, up to a completion (R163 to
R167); and the rows of the engine as the host's write and the owner's event. -/
namespace Sys2Proof.Machine

/-! ## Events that complete nothing -/

/-- The second engine reports what the first does, and executes when the first does. -/
structure Engine.Carries (e f : Engine) : Prop where
  result : f.result = e.result
  detail : f.detail = e.detail
  aux : f.aux = e.aux
  executes : e.phase ≠ .idle → f.phase ≠ .idle

theorem Engine.Carries.of_eq {e f : Engine} (h : f = e) : e.Carries f := by
  subst h
  exact ⟨rfl, rfl, rfl, id⟩

/-- The event ended in a completion (R166). -/
def State.Completed (t : State) : Prop :=
  ∃ (u : State) (code : ResultCode) (detail aux : BitVec 16), t = u.complete code detail aux

theorem State.completed (u : State) (code : ResultCode) (detail aux : BitVec 16) :
    (u.complete code detail aux).Completed := ⟨u, code, detail, aux, rfl⟩

/-- The events of a tick leave the engine alone. -/
theorem engine_keptByEvents (e : Engine) : KeptByEvents (fun s => s.engine = e) where
  evaluation x s h := by rw [s.takeEvaluation_frame x]; exact h
  zChange x s h := by rw [s.takeZChange_frame x]; exact h
  levelChange n s h := by rw [s.takeLevelChange_frame n]; exact h
  syncChange s h := by rw [s.takeSyncChange_frame]; exact h
  holdoff _ _ h _ := h
  width _ _ h _ := h
  gap _ _ h _ := h
  latch _ h _ := h
  count _ h := h
  advance _ h := h
  sample f s h := by rw [s.takeSample_frame f]; exact h

/-- An owner's event completes its command, or it accepts an append or a flush (R165). -/
theorem Command.owner_completed_or_carries (k : Command) (u : UnitNo) (s : State) :
    (k.owner u s).Completed ∨ s.engine.Carries (k.owner u s).engine := by
  cases k <;> simp only [Command.owner]
  case schedAppend =>
    obtain ⟨_, _, _, e⟩ | ⟨_, e⟩ := s.acceptAppend_cases (axisOf u) <;> rw [e]
    · exact .inl (s.completed _ _ _)
    · exact .inr ⟨rfl, rfl, rfl, fun _ h => by cases h⟩
  case schedFlush =>
    obtain ⟨_, e⟩ | ⟨_, e⟩ := s.acceptFlush_cases (axisOf u) <;> rw [e]
    · exact .inl (s.completed _ _ _)
    · exact .inr ⟨rfl, rfl, rfl, fun _ h => by cases h⟩
  case schedSkip =>
    obtain ⟨_, e⟩ | ⟨k, rest, _, e⟩ := s.skipHead_cases (axisOf u) <;> rw [e]
    · exact .inl (s.completed _ _ _)
    · exact .inl (State.completed _ _ _ _)
  case axisConfig =>
    obtain ⟨_, _, _, _, e⟩ | ⟨_, _, e⟩ := s.configureAxis_cases (axisOf u) <;> rw [e]
    · exact .inl (State.completed _ _ _ _)
    · exact .inl (s.completed _ _ _)
  case axisStart =>
    obtain ⟨_, e⟩ | ⟨_, e⟩ := s.startAxis_cases (axisOf u) <;> rw [e]
    · exact .inl (State.completed _ _ _ _)
    · exact .inl (s.completed _ _ _)
  case axisStop =>
    obtain ⟨_, e⟩ | ⟨_, e⟩ | ⟨_, e⟩ := s.stopAxis_cases (axisOf u) <;> rw [e]
    · exact .inl (s.completed _ _ _)
    · exact .inl (State.completed _ _ _ _)
    · exact .inl (State.completed _ _ _ _)
  case axisResume =>
    obtain ⟨_, e⟩ | ⟨_, e⟩ := s.resumeAxis_cases (axisOf u) <;> rw [e]
    · exact .inl (State.completed _ _ _ _)
    · exact .inl (s.completed _ _ _)
  case axisSetpos =>
    obtain ⟨_, _, _, e⟩ | e := s.setPosition_cases (axisOf u) <;> rw [e]
    · exact .inl (State.completed _ _ _ _)
    · exact .inl (s.completed _ _ _)
  case homeArm =>
    obtain ⟨_, _, e⟩ | ⟨_, e⟩ := s.armHoming_cases (axisOf u) <;> rw [e]
    · exact .inl (s.completed _ _ _)
    · exact .inl (State.completed _ _ _ _)
  case homeCancel =>
    obtain ⟨_, _, e⟩ | ⟨_, _, e⟩ := s.cancelHoming_cases (axisOf u) <;> rw [e]
    · exact .inl (s.completed _ _ _)
    · exact .inl (State.completed _ _ _ _)
  case syncDisarm =>
    obtain ⟨_, e⟩ | e := s.disarmSync_cases <;> rw [e]
    · exact .inl (s.completed _ _ _)
    · exact .inl (State.completed _ _ _ _)
  all_goals exact .inl ⟨_, _, _, _, rfl⟩

/-- A command write completes its command from an IDLE engine alone. -/
theorem State.commandWrite_completed_or_carries (d : Halfword) (s : State) :
    (s.engine.phase = .idle ∧ (s.commandWrite d).Completed) ∨ s.engine.Carries (s.commandWrite d).engine := by
  obtain ⟨_, e⟩ | ⟨hi, c, _, _, e⟩ | ⟨hi, code, detail, aux, _, e⟩ := s.commandWrite_cases d <;> rw [e]
  · exact .inr (.of_eq rfl)
  · exact .inr ⟨rfl, rfl, rfl, fun h => absurd hi h⟩
  · exact .inl ⟨hi, State.completed _ _ _ _⟩

/-- A host write to another location than the command location completes nothing. -/
theorem Window.write_carries (l : Location) (d : Halfword) (s : State) (h : l ≠ .cmd) :
    s.engine.Carries (Window.write l d s).engine := by
  cases l
  case cmd => exact absurd rfl h
  case stageSel =>
    simp only [Window.write, State.writeStageSel]
    split <;> exact ⟨rfl, rfl, rfl, id⟩
  case staged k =>
    simp only [Window.write, State.writeStaged]
    split <;> exact ⟨rfl, rfl, rfl, id⟩
  case axisStaging k =>
    simp only [Window.write, State.writeAxisStaging]
    split <;> exact ⟨rfl, rfl, rfl, id⟩
  case viewPointer =>
    simp only [Window.write, State.writeViewPointer]
    split <;> exact .of_eq rfl
  case jctrl =>
    obtain ⟨a, e⟩ | e := s.writeControl_cases d <;> simp only [Window.write, e] <;> exact .of_eq rfl
  all_goals exact ⟨rfl, rfl, rfl, id⟩

/-! ## Where a completion falls -/

/-- The events at which a completion falls (R163 to R166, R43, R71). -/
def CompletesAt (c : Instr) (s : State) : Prop :=
  (s.engine.phase = .idle ∧ ∃ d, c = .commandWrite d ∨ c = .registerWrite 0x04 d) ∨
  (∃ (k : Command) (v : UnitNo), c = k.row v ∧ (s.engine.phase = .idle ∨ s.awaits k v = true)) ∨
  (c = .appendCompletion ∧ ∃ p, s.engine.phase = .appending p ∧ p.left = 0) ∨
  (c = .flushCompletion ∧ ∃ total, s.engine.phase = .flushing total)

theorem WritesTo.cmd {c : Instr} {d : Halfword} (h : WritesTo c .cmd d) : c = .commandWrite d ∨ c = .registerWrite 0x04 d := by
  obtain ⟨a, rfl, ha⟩ | ⟨a, rfl⟩ := h
  · have : ∀ a : Address, locationAt a = some .cmd → a = 0x04 := by decide
    rw [this a ha]
    exact .inr rfl
  · exact .inl rfl

/-- Every effect but that of PIN_RESET ends in a completion at one of its events, or completes nothing. -/
theorem Effect.completed_or_carries {c : Instr} {s t : State} (h : Effect c s t) (hc : c ≠ .pinReset) :
    (t.Completed ∧ CompletesAt c s) ∨ s.engine.Carries t.engine := by
  have k := engine_keptByEvents s.engine
  have same : ∀ {t : State}, t.engine = s.engine → (t.Completed ∧ CompletesAt c s) ∨ s.engine.Carries t.engine :=
    fun e => .inr (.of_eq e)
  cases h with
  | unchanged => exact same rfl
  | pinReset => exact absurd rfl hc
  | release => exact same rfl
  | evaluation e => exact same (k.evaluation e _ rfl)
  | zChange e => exact same (k.zChange e _ rfl)
  | levelChange n => exact same (k.levelChange n _ rfl)
  | syncChange => exact same (k.syncChange _ rfl)
  | tick => exact same (k.tick rfl)
  | afterTick _ _ ready event hf hr => exact same (k.fallsWithTick hf hr rfl)
  | beforeTick _ _ ready event hf _ _ hr => exact same (k.fallsWithTick hf hr (k.countTick rfl))
  | comparison n => exact same (by rw [s.compareDeadline_frame n])
  | appendStep => exact .inr ⟨rfl, rfl, rfl, fun _ h => by cases h⟩
  | appendCompletion _ p detail aux hp hl => exact .inl ⟨s.completed _ _ _, .inr (.inr (.inl ⟨rfl, p, hp, hl⟩))⟩
  | flushStep => exact same (by rw [s.returnHead_frame])
  | flushCompletion _ total hp => exact .inl ⟨⟨_, _, _, _, rfl⟩, .inr (.inr (.inr ⟨rfl, total, hp⟩))⟩
  | taken q u _ ha => exact (q.owner_completed_or_carries u s).imp_left fun h => ⟨h, .inr (.inl ⟨q, u, rfl, .inr ha⟩)⟩
  | issuedAndTaken q u _ hi =>
    obtain h | h := q.owner_completed_or_carries u (s.setEngine (s.engine.issue (commandWord q u)))
    · exact .inl ⟨h, .inr (.inl ⟨q, u, rfl, .inl hi⟩)⟩
    · exact .inr ⟨h.result, h.detail, h.aux, fun hn => absurd hi hn⟩
  | rowWritten q u =>
    exact (State.commandWrite_completed_or_carries _ s).imp_left fun h => ⟨h.2, .inr (.inl ⟨q, u, rfl, .inl h.1⟩)⟩
  | write _ l d _ hw =>
    by_cases hl : l = .cmd
    · subst hl
      exact (State.commandWrite_completed_or_carries d s).imp_left fun h => ⟨h.2, .inl ⟨h.1, d, hw.cmd⟩⟩
    · exact .inr (Window.write_carries l d s hl)
  | read _ l => exact same (by rw [Window.read_frame])

theorem State.complete_eq (s : State) (code : ResultCode) (detail aux : BitVec 16) : s.complete code detail aux = { s with
    engine := { s.engine with phase := .idle, result := code, detail := detail, aux := aux }
    interrupts := if code = .ok then s.interrupts.raise .cmdDone else (s.interrupts.raise .cmdDone).raise .cmdErr } := by
  by_cases h : code = .ok <;> simp [State.complete, h]

/-- Settles O8: every effect but PIN_RESET either carries the result and the execution on, or ends in a completion at one
of the events listed; a row that finds its command waiting finds RESETn released. -/
theorem resultChangesOnlyAtACompletion : Obligations.ResultChangesOnlyAtACompletion := by
  refine ⟨fun code detail aux s => s.complete_eq code detail aux, fun c s t h hchange hc => ?_⟩
  obtain ⟨hdone, hat⟩ | hcar := (effect_of_exec h).completed_or_carries hc
  · refine ⟨hdone, ?_⟩
    obtain hw | ⟨k, v, rfl, hi | ha⟩ | hfin := hat
    · exact .inl hw
    · exact .inr (.inl ⟨k, v, rfl, .inl hi⟩)
    · refine .inr (.inl ⟨k, v, rfl, ?_⟩)
      have hgated : ¬ Ungated (k.row v) := by rintro (e | e) <;> cases k <;> cases e
      obtain ⟨_, _, rfl⟩ | ⟨hr | hu, _⟩ := exec_next h
      · simp at hchange
      · exact .inr ⟨hr, (State.awaits_iff k v s).mp ha⟩
      · exact absurd hu hgated
    · exact .inr (.inr hfin)
  · obtain hr | hd | ha | ⟨hb, hi⟩ := hchange
    · exact absurd hcar.result hr
    · exact absurd hcar.detail hd
    · exact absurd hcar.aux ha
    · exact absurd hi (hcar.executes hb)

/-! ## The rows of the engine -/

/-- Settles O1: the front of the queue is what the step takes. -/
theorem stepTakesTheFrontCommand : Obligations.StepTakesTheFrontCommand :=
  fun _ _ _ => ⟨rfl, rfl⟩

/-- While a command executes, the row of a command that does not wait is an overrun. -/
theorem State.carryOut_of_executing {k : Command} {u : UnitNo} {s : State} (owner : State → State)
    (hb : s.engine.phase ≠ .idle) (hw : s.awaits k u = false) : s.carryOut k u owner = s.raise .cmdOverrun := by
  obtain ⟨ha, _⟩ | ⟨hi, _, _⟩ | ⟨_, e⟩ := s.carryOut_cases k u owner
  · rw [hw] at ha; cases ha
  · exact absurd hi hb
  · rw [e, State.commandWrite_of_executing _ hb]

theorem State.awaits_eq_false {k : Command} {u : UnitNo} {s : State} (hr : s.inReset = false) (h : ¬ s.Waits k u) :
    s.awaits k u = false := by
  rw [← Bool.not_eq_true, State.awaits_iff]
  exact fun ha => h ⟨hr, ha⟩

/-- A row whose command does not wait is an overrun while another command executes. -/
theorem exec_row_of_executing {k : Command} {u : UnitNo} {s : State} (hr : s.inReset = false)
    (hb : s.engine.phase ≠ .idle) (hw : ¬ s.Waits k u) : exec (k.row u) s = .next (s.raise .cmdOverrun) := by
  rw [exec_row, answer_of_running _ _ hr, State.carryOut_of_executing _ hb (State.awaits_eq_false hr hw)]

/-- Settles O6: COMMAND_WRITE and the rows meet the same engine, which is not IDLE. -/
theorem commandDuringExecutionIsAnOverrun : Obligations.CommandDuringExecutionIsAnOverrun := by
  refine fun s hr hb => ⟨fun d => ?_, fun c u hw => exec_row_of_executing hr hb hw⟩
  rw [exec_commandWrite_of_running d hr, State.commandWrite_of_executing d hb]
  rfl

theorem issue_commandWord_opcode (e : Engine) (c : Command) (u : UnitNo) :
    (e.issue (commandWord c u)).opcode = c.code := field_commandWord_opcode c u

theorem issue_commandWord_unit (e : Engine) (c : Command) (u : UnitNo) :
    (e.issue (commandWord c u)).unit = u := field_commandWord_unit c u

/-- Settles O7: the write of the command word issues the command when the unit number passes, and the row on the issued
command is its owner's event; a unit number that fails completes in the write. -/
theorem commandRowIsItsWriteAndItsEvent : Obligations.CommandRowIsItsWriteAndItsEvent := by
  rintro c u s ⟨hr, hi⟩
  have hn : s.awaits c u = false := State.awaits_eq_false hr fun h => by rw [h.2.1] at hi; cases hi
  refine ⟨s.commandWrite (commandWord c u), exec_commandWrite_of_running _ hr, fun hu => ?passes, fun hu => ?fails⟩
  case passes =>
    have hw : s.commandWrite (commandWord c u) = s.setEngine (s.engine.issue (commandWord c u)) :=
      State.commandWrite_passes _ hi (issue_commandWord_opcode _ c u).symm (by rw [issue_commandWord_unit]; exact hu)
    rw [hw]
    have waits : (s.setEngine (s.engine.issue (commandWord c u))).Waits c u :=
      ⟨hr, (State.awaits_iff c u _).mp (State.awaits_issue c u s)⟩
    refine ⟨waits, ?_⟩
    rw [waits.exec_row, exec_row, answer_of_running _ _ hr, State.carryOut]
    simp only [hn, hw, hi, State.awaits_issue, Bool.false_eq_true, if_false, true_and, if_true]
  case fails =>
    have hw : (s.commandWrite (commandWord c u)).engine.phase = .idle := by
      rw [State.commandWrite_badUnit _ hi (issue_commandWord_opcode _ c u).symm (by rw [issue_commandWord_unit]; exact hu)]
      rfl
    have hna : (s.commandWrite (commandWord c u)).awaits c u = false := by
      rw [← Bool.not_eq_true, State.awaits_iff, hw]
      exact fun h => by cases h.1
    rw [exec_row, answer_of_running _ _ hr, State.carryOut]
    simp only [hn, hna, Bool.false_eq_true, if_false, and_false]

/-! ## Every command answers -/

/-- No event but the resets reaches the queue, and the resets keep it. -/
theorem pending_keptByEvents (q : List Instr) : KeptByEvents (fun s => s.pending = q) where
  evaluation x s h := by rw [s.takeEvaluation_frame x]; exact h
  zChange x s h := by rw [s.takeZChange_frame x]; exact h
  levelChange n s h := by rw [s.takeLevelChange_frame n]; exact h
  syncChange s h := by rw [s.takeSyncChange_frame]; exact h
  holdoff _ _ h _ := h
  width _ _ h _ := h
  gap _ _ h _ := h
  latch _ h _ := h
  count _ h := h
  advance _ h := h
  sample f s h := by rw [s.takeSample_frame f]; exact h

theorem Command.owner_pending (k : Command) (u : UnitNo) (s : State) : (k.owner u s).pending = s.pending := by
  cases k <;> simp only [Command.owner]
  case schedAppend =>
    obtain ⟨_, _, _, e⟩ | ⟨_, e⟩ := s.acceptAppend_cases (axisOf u) <;> rw [e] <;> rfl
  case schedFlush =>
    obtain ⟨_, e⟩ | ⟨_, e⟩ := s.acceptFlush_cases (axisOf u) <;> rw [e] <;> rfl
  case schedSkip =>
    obtain ⟨_, e⟩ | ⟨k, rest, _, e⟩ := s.skipHead_cases (axisOf u) <;> rw [e]
    · rfl
    · exact s.departHead_pending _
  case axisConfig =>
    obtain ⟨_, _, _, _, e⟩ | ⟨_, _, e⟩ := s.configureAxis_cases (axisOf u) <;> rw [e] <;> rfl
  case axisStart => obtain ⟨_, e⟩ | ⟨_, e⟩ := s.startAxis_cases (axisOf u) <;> rw [e] <;> rfl
  case axisStop => obtain ⟨_, e⟩ | ⟨_, e⟩ | ⟨_, e⟩ := s.stopAxis_cases (axisOf u) <;> rw [e] <;> rfl
  case axisResume => obtain ⟨_, e⟩ | ⟨_, e⟩ := s.resumeAxis_cases (axisOf u) <;> rw [e] <;> rfl
  case axisSetpos => obtain ⟨_, _, _, e⟩ | e := s.setPosition_cases (axisOf u) <;> rw [e] <;> rfl
  case homeArm => obtain ⟨_, _, e⟩ | ⟨_, e⟩ := s.armHoming_cases (axisOf u) <;> rw [e] <;> rfl
  case homeCancel => obtain ⟨_, _, e⟩ | ⟨_, _, e⟩ := s.cancelHoming_cases (axisOf u) <;> rw [e] <;> rfl
  case syncDisarm => obtain ⟨_, e⟩ | e := s.disarmSync_cases <;> rw [e] <;> rfl
  all_goals rfl

theorem Effect.pending {c : Instr} {s t : State} (h : Effect c s t) : t.pending = s.pending := by
  have k := pending_keptByEvents s.pending
  cases h with
  | unchanged => rfl
  | pinReset => rfl
  | release => rfl
  | evaluation e => exact k.evaluation e _ rfl
  | zChange e => exact k.zChange e _ rfl
  | levelChange n => exact k.levelChange n _ rfl
  | syncChange => exact k.syncChange _ rfl
  | tick => exact k.tick rfl
  | afterTick _ _ ready event hf hr => exact k.fallsWithTick hf hr rfl
  | beforeTick _ _ ready event hf _ _ hr => exact k.fallsWithTick hf hr (k.countTick rfl)
  | comparison n => rw [s.compareDeadline_frame n]
  | appendStep => rfl
  | appendCompletion => rfl
  | flushStep => rw [s.returnHead_frame]
  | flushCompletion => rfl
  | taken q u => exact q.owner_pending u s
  | issuedAndTaken q u => exact q.owner_pending u _
  | rowWritten q u => rw [State.commandWrite_frame]
  | write _ l d => rw [Window.write_frame]
  | read _ l => rw [Window.read_frame]

/-- Every command answers a next state, but an append step without a free slot. -/
theorem exec_answers (c : Instr) (s : State) :
    (∃ t, exec c s = .next t) ∨ (c = .appendStep ∧ s.AppendStarved ∧ exec c s = .fault .poolExhausted) := by
  by_cases ha : c = .appendStep
  · subst ha
    obtain ⟨hs, e⟩ | ⟨_, e⟩ := exec_appendStep_cases s
    · exact .inr ⟨rfl, hs, e⟩
    · exact .inl ⟨_, e⟩
  · by_cases hc : Ungated c
    · exact .inl ⟨_, exec_ungated c s hc⟩
    · exact .inl ⟨_, exec_eq_answer c s hc ha⟩

/-- An append in progress that finds its slots is not without a free one (R40). -/
theorem State.PoolSound.not_appendStarved {s : State} (h : s.PoolSound) : ¬ s.AppendStarved := by
  rintro ⟨_, hf, p, hp, hl⟩
  obtain ⟨_, _, hbacked⟩ := h
  obtain ⟨hle, _, _⟩ := hbacked p hp
  rw [hf] at hle
  exact hl (Nat.le_zero.mp hle)

/-- Settles O2: an append step without a free slot is the one command that does not answer, and a sound pool has the slot. -/
theorem everyCommandAnswersANextState : Obligations.EveryCommandAnswersANextState := by
  refine ⟨fun c s hs => ?_, fun c s hn => ?_⟩
  · obtain ⟨t, e⟩ | ⟨_, hstarved, _⟩ := exec_answers c s
    · exact ⟨t, e, (effect_of_exec e).pending⟩
    · exact absurd hstarved hs.not_appendStarved
  · obtain ⟨t, e⟩ | ⟨rfl, ⟨_, hf, _⟩, e⟩ := exec_answers c s
    · exact absurd e (hn t)
    · exact ⟨rfl, hf, e⟩

end Sys2Proof.Machine
end

section
/-! The state, the homing state and the position of an axis under every event (R10, R13, R52, R81), and what a tick does to a
part on which nothing is left over (R121). -/
namespace Sys2Proof.Machine

/-! ## Commands that take their own event -/

section
variable {s : State}

/-- The divider of an axis takes no part in what its decoder and its index unit have to take. -/
theorem State.SamplesTaken.count (h : s.SamplesTaken) : s.count.SamplesTaken := by
  obtain ⟨ha, ht, hs⟩ := h
  refine ⟨fun n => ?_, fun n => ?_, hs⟩
  · have : s.count.axis n = (s.axis n).tick := by simp [State.axis]
    rw [this]
    exact ha n
  · have : s.count.trigger n = (s.trigger n).tick := by simp [State.trigger]
    rw [this]
    exact ht n

/-- A tick on a part on which nothing is left over: the counters count it, where they have not, and the timebase takes it. -/
theorem State.tick_of_settled (h : s.Settled) : s.tick = (if s.counted then s else s.count).advance := by
  cases hc : s.counted with
  | true => simp [State.tick, s.countTick_of_counted hc, s.takeSampled_of_taken h.1]
  | false => simp [State.tick, s.countTick_of_settled h hc, s.count.takeSampled_of_taken h.1.count]

theorem FallsWithTick.reached {c : Instr} {ready : State → Bool} {event : State → State}
    (h : FallsWithTick c ready event) (s : State) : s.reached c = some (ready s) := by
  cases h with
  | sample f => cases f <;> rfl
  | width l => rfl
  | gap l => rfl
  | holdoff n => rfl
  | latch => rfl

/-- An event before its tick that takes its own event alone finds the counters of CLKIN at the coming tick. -/
theorem State.TakesItsOwnEvent.countTick {c : Instr} {ready : State → Bool} {event : State → State}
    (h : s.TakesItsOwnEvent c) (hf : FallsWithTick c ready event) (hn : ready s = false) (hc : s.counted = false) :
    s.countTick = s.count :=
  s.countTick_of_settled (h (.inr (.inr ⟨by rw [hf.reached, hn], hc⟩))) hc

theorem State.TakesItsOwnEvent.tick {c : Instr} (h : s.TakesItsOwnEvent c)
    (hc : c = .timebaseTick ∨ c = .trimAdjustedTick) : s.tick = (if s.counted then s else s.count).advance :=
  State.tick_of_settled (h (hc.elim .inl fun e => .inr (.inl e)))

end

/-! ## What an owner's event does to an axis -/

/-- The second axis stands as the first does: in its state, its homing state and its position. -/
structure Axis.SameStanding (x y : Axis) : Prop where
  state : y.state = x.state
  homing : y.homing = x.homing
  position : y.position = x.position

theorem Axis.SameStanding.rfl {x : Axis} : x.SameStanding x := ⟨.refl _, .refl _, .refl _⟩

/-- What the owner's event of an axis or homing command makes of its axis (R14 to R22, R84, R85). -/
inductive Command.Moves : Command → Axis → Axis → Prop
  | start (x : Axis) (h : x.state = .stopped) :
      Moves .axisStart x { x with state := .counting, phase := x.filtered }
  | resume (x : Axis) (h : x.state = .faulted) :
      Moves .axisResume x { x with state := .counting, phase := x.filtered, errorSince := 0 }
  | stop (x : Axis) : Moves .axisStop x { x with state := .stopped, errorSince := 0 }
  | setpos (x : Axis) (p : BitVec 32) (r : BitVec 16) : Moves .axisSetpos x (x.load p r)
  | config (x : Axis) (h : x.state = .stopped) (c : AxisConfig) : Moves .axisConfig x (x.configure c)
  | reset (x : Axis) : Moves .axisReset x x.resetKeeping
  | arm (x : Axis) : Moves .homeArm x { x with homing := .seeking }
  | cancel (x : Axis) (h : x.homing = .seeking) : Moves .homeCancel x { x with homing := .unreferenced }

section
variable {k : Command} {s : State} {n : AxisNo}

/-- An event that sets one axis moves that axis alone. -/
theorem Command.moves_of_setAxis {y : Axis} (h : k.Moves (s.axis n) y) (m : AxisNo) :
    (s.axis m).SameStanding ((s.setAxis n y).axis m) ∨ (n = m ∧ k.Moves (s.axis m) ((s.setAxis n y).axis m)) := by
  by_cases hm : n = m
  · subst hm
    rw [State.setAxis_axis_self]
    exact .inr ⟨rfl, h⟩
  · rw [State.setAxis_axis_of_ne _ _ _ _ hm]
    exact .inl .rfl

/-- An owner's event leaves an axis standing, resets the part, or is the command of that axis. -/
theorem Command.owner_axis (k : Command) (u : UnitNo) (s : State) (m : AxisNo) :
    (s.axis m).SameStanding ((k.owner u s).axis m) ∨ k = .chipReset ∨
    (axisOf u = m ∧ k.Moves (s.axis m) ((k.owner u s).axis m)) := by
  have same : ∀ {t : State}, t.axes = s.axes → (s.axis m).SameStanding (t.axis m) := by
    intro t h
    rw [show t.axis m = s.axis m by rw [State.axis, h]; rfl]
    exact .rfl
  have sets : ∀ {y : Axis} {t : State}, k.Moves (s.axis (axisOf u)) y → t.axes = (s.setAxis (axisOf u) y).axes →
      (s.axis m).SameStanding (t.axis m) ∨ k = .chipReset ∨ (axisOf u = m ∧ k.Moves (s.axis m) (t.axis m)) := by
    intro y t hy ht
    rw [show t.axis m = (s.setAxis (axisOf u) y).axis m by rw [State.axis, ht]; rfl]
    exact (Command.moves_of_setAxis hy m).imp_right .inr
  cases k <;> simp only [Command.owner] at sets ⊢
  case schedAppend =>
    obtain ⟨_, _, _, e⟩ | ⟨_, e⟩ := s.acceptAppend_cases (axisOf u) <;> rw [e] <;> exact .inl (same rfl)
  case schedFlush =>
    obtain ⟨_, e⟩ | ⟨_, e⟩ := s.acceptFlush_cases (axisOf u) <;> rw [e] <;> exact .inl (same rfl)
  case schedSkip =>
    obtain ⟨_, e⟩ | ⟨k, rest, _, e⟩ := s.skipHead_cases (axisOf u) <;> rw [e]
    · exact .inl (same rfl)
    · exact .inl (same (s.departHead_axes _))
  case axisConfig =>
    obtain ⟨h, _, _, _, e⟩ | ⟨_, _, e⟩ := s.configureAxis_cases (axisOf u) <;> rw [e]
    · exact sets (.config _ h _) rfl
    · exact .inl (same rfl)
  case axisStart =>
    obtain ⟨h, e⟩ | ⟨_, e⟩ := s.startAxis_cases (axisOf u) <;> rw [e]
    · exact sets (.start _ h) rfl
    · exact .inl (same rfl)
  case axisStop =>
    obtain ⟨_, e⟩ | ⟨_, e⟩ | ⟨_, e⟩ := s.stopAxis_cases (axisOf u) <;> rw [e]
    · exact .inl (same rfl)
    · exact sets (.stop _) rfl
    · exact sets (.stop _) rfl
  case axisResume =>
    obtain ⟨h, e⟩ | ⟨_, e⟩ := s.resumeAxis_cases (axisOf u) <;> rw [e]
    · exact sets (.resume _ h) rfl
    · exact .inl (same rfl)
  case axisSetpos =>
    obtain ⟨p, r, _, e⟩ | e := s.setPosition_cases (axisOf u) <;> rw [e]
    · exact sets (.setpos _ p r) rfl
    · exact .inl (same rfl)
  case axisClrerr =>
    refine .inl ?_
    rw [State.clearErrors, State.complete_axis, State.setAxis_axis]
    split
    · subst m; exact ⟨rfl, rfl, rfl⟩
    · exact .rfl
  case axisReset => exact sets (.reset _) rfl
  case homeArm =>
    obtain ⟨_, _, e⟩ | ⟨_, e⟩ := s.armHoming_cases (axisOf u) <;> rw [e]
    · exact .inl (same rfl)
    · exact sets (.arm _) rfl
  case homeCancel =>
    obtain ⟨_, _, e⟩ | ⟨h, _, e⟩ := s.cancelHoming_cases (axisOf u) <;> rw [e]
    · exact .inl (same rfl)
    · exact sets (.cancel _ h) rfl
  case syncDisarm =>
    obtain ⟨_, e⟩ | e := s.disarmSync_cases <;> rw [e] <;> exact .inl (same rfl)
  case chipReset => exact .inr (.inl trivial)
  all_goals exact .inl (same rfl)

end

/-! ## What the events of a sample point do to an axis -/

section
variable (s : State)

/-- Everything an evaluation does to the axes: the pair alone, a counting step, or a phase error, on its own axis. -/
theorem State.takeEvaluation_axis (e : AxisEvent) (m : AxisNo) :
    (s.axis m).SameStanding ((s.takeEvaluation e).axis m) ∨
    (e.axis = m ∧ (s.axis m).toEvaluate = true ∧
      ((∃ d, (s.axis m).StepsTo d ∧
        (s.takeEvaluation e).axis m = ({ s.axis m with phase := (s.axis m).filtered } : Axis).move d) ∨
       ((s.axis m).faults = true ∧ ((s.takeEvaluation e).axis m).state = .faulted ∧
        ((s.takeEvaluation e).axis m).homing = (s.axis m).homing ∧
        ((s.takeEvaluation e).axis m).position = (s.axis m).position))) := by
  have pair : (s.axis m).SameStanding ((s.takePair e.axis).axis m) := by
    rw [State.takePair, State.setAxis_axis]
    split
    · subst m; exact ⟨rfl, rfl, rfl⟩
    · exact .rfl
  obtain ⟨_, h⟩ | ⟨ht, h⟩ := s.takeEvaluation_cases e <;> rw [h]
  · exact .inl .rfl
  obtain ⟨d, hd, h⟩ | ⟨_, h⟩ | ⟨_, h⟩ := s.evaluate_cases e <;> rw [h]
  · have hax : ((s.takePair e.axis).countStep e.axis e.between d).axis m =
        ((s.takePair e.axis).setAxis e.axis (((s.takePair e.axis).axis e.axis).move d)).axis m := by
      rw [State.countStep_frame]; rfl
    rw [hax, State.setAxis_axis]
    split
    · subst m
      refine .inr ⟨rfl, ht, .inl ⟨d, hd, ?_⟩⟩
      rw [State.takePair, State.setAxis_axis_self]
    · exact .inl pair
  · have hax : ((s.takePair e.axis).phaseError e.axis e.between).axis m =
        ((s.takePair e.axis).setAxis e.axis { (s.takePair e.axis).axis e.axis with
          errorTotal := satInc ((s.takePair e.axis).axis e.axis).errorTotal
          errorSince := satInc ((s.takePair e.axis).axis e.axis).errorSince
          state := if ((s.takePair e.axis).axis e.axis).faults then .faulted
            else ((s.takePair e.axis).axis e.axis).state }).axis m := by
      simp only [State.phaseError]
      split <;> simp only [State.raise_axis, State.offer_axis, State.perform_axis, State.offerIf_axis]
    rw [hax, State.setAxis_axis]
    split
    · subst m
      rw [State.takePair, State.setAxis_axis_self]
      by_cases hf : (s.axis e.axis).faults = true
      · exact .inr ⟨rfl, ht, .inr ⟨hf, if_pos hf, rfl, rfl⟩⟩
      · exact .inl ⟨if_neg hf, rfl, rfl⟩
    · exact .inl pair
  · exact .inl pair

/-- Everything the index unit's event does to the axes: nothing that shows, or the homing load of its own axis. -/
theorem State.takeZChange_axis (e : AxisEvent) (m : AxisNo) :
    (s.axis m).SameStanding ((s.takeZChange e).axis m) ∨
    (e.axis = m ∧ (s.axis m).state = .counting ∧ (s.axis m).homing = .seeking ∧
      ((s.takeZChange e).axis m).state = (s.axis m).state ∧ ((s.takeZChange e).axis m).homing = .referenced ∧
      ((s.takeZChange e).axis m).position = (s.axis m).config.reference) := by
  have taken : (s.axis m).SameStanding ((s.setAxis e.axis { s.axis e.axis with zChanged := false }).axis m) := by
    rw [State.setAxis_axis]
    split
    · subst m; exact ⟨rfl, rfl, rfl⟩
    · exact .rfl
  obtain ⟨_, h⟩ | ⟨_, _, h⟩ | ⟨_, hq, h⟩ := s.takeZChange_cases e <;> rw [h]
  · exact .inl .rfl
  · exact .inl taken
  have hcounting : (s.axis e.axis).state = .counting := by
    simp only [Axis.qualifiedIndex, Bool.and_eq_true, decide_eq_true_eq] at hq
    exact hq.1.1.1
  simp only [State.takeIndex, State.setAxis_axis_self]
  split
  · rw [State.homingLoad]
    rw [State.offer_axis]
    by_cases hm : e.axis = m
    · subst hm
      rw [State.setAxis_axis_self, State.perform_axis, State.offerIf_axis, State.setAxis_axis_self]
      exact .inr ⟨rfl, hcounting, ‹_›, rfl, rfl, rfl⟩
    · rw [State.setAxis_axis_of_ne _ _ _ _ hm, State.perform_axis, State.offerIf_axis]
      exact .inl taken
  · rw [State.perform_axis, State.offerIf_axis]
    exact .inl taken

end

/-! ## Every event -/

/-- What a command that takes its own event alone does to an axis: nothing that shows, a reset of the part, a counting step
or a fault of its own decoder, its own homing load, or its own command. -/
theorem Effect.axis_cases {c : Instr} {s t : State} (h : Effect c s t) (own : s.TakesItsOwnEvent c) (m : AxisNo) :
    (s.axis m).SameStanding (t.axis m) ∨ c = .pinReset ∨ (∃ u, c = .chipReset u) ∨
    (∃ b, c = .decoderEvaluation { axis := m, between := b } ∧ (s.axis m).toEvaluate = true ∧
      ((∃ d, (s.axis m).StepsTo d ∧ t.axis m = ({ s.axis m with phase := (s.axis m).filtered } : Axis).move d) ∨
       ((s.axis m).faults = true ∧ (t.axis m).state = .faulted ∧ (t.axis m).homing = (s.axis m).homing ∧
        (t.axis m).position = (s.axis m).position))) ∨
    (∃ b, c = .indexEdge { axis := m, between := b } ∧ (s.axis m).state = .counting ∧ (s.axis m).homing = .seeking ∧
      (t.axis m).state = (s.axis m).state ∧ (t.axis m).homing = .referenced ∧
      (t.axis m).position = (s.axis m).config.reference) ∨
    ∃ k u, c = Command.row k u ∧ axisOf u = m ∧ k.Moves (s.axis m) (t.axis m) := by
  have same : ∀ {t : State}, t.axes = s.axes → (s.axis m).SameStanding (t.axis m) := by
    intro t h
    rw [show t.axis m = s.axis m by rw [State.axis, h]; rfl]
    exact .rfl
  have count : (s.axis m).SameStanding (s.count.axis m) := by
    rw [show s.count.axis m = (s.axis m).tick by simp [State.axis]]
    exact ⟨rfl, rfl, rfl⟩
  have sample : ∀ (r : State) f, (r.axis m).SameStanding ((r.takeSample f).axis m) := by
    intro r f
    cases f with
    | axis n a b z =>
      simp only [State.takeSample, State.setAxis_axis]
      split
      · subst m; exact ⟨rfl, rfl, rfl⟩
      · exact .rfl
    | trigger n raw => exact .rfl
    | sync raw => exact .rfl
  have falls : ∀ {ready event} (r : State), FallsWithTick c ready event → (r.axis m).SameStanding ((event r).axis m) := by
    intro ready event r hf
    cases hf with
    | sample f => exact sample r f
    | _ => exact .rfl
  have owner : ∀ k u e, c = Command.row k u → (s.axis m).SameStanding ((k.owner u (s.setEngine e)).axis m) ∨
      (∃ u, c = .chipReset u) ∨
      ∃ k' u', c = Command.row k' u' ∧ axisOf u' = m ∧ k'.Moves (s.axis m) ((k.owner u (s.setEngine e)).axis m) := by
    rintro k u e rfl
    obtain hs | rfl | ⟨hu, hm⟩ := k.owner_axis u (s.setEngine e) m
    · exact .inl hs
    · exact .inr (.inl ⟨u, rfl⟩)
    · exact .inr (.inr ⟨k, u, rfl, hu, hm⟩)
  cases h with
  | unchanged => exact .inl .rfl
  | pinReset => exact .inr (.inl rfl)
  | release => exact .inl .rfl
  | evaluation e =>
    obtain hs | ⟨rfl, he⟩ := s.takeEvaluation_axis e m
    · exact .inl hs
    · exact .inr (.inr (.inr (.inl ⟨e.between, rfl, he⟩)))
  | zChange e =>
    obtain hs | ⟨rfl, he⟩ := s.takeZChange_axis e m
    · exact .inl hs
    · exact .inr (.inr (.inr (.inr (.inl ⟨e.between, rfl, he⟩))))
  | levelChange n => rw [s.takeLevelChange_frame n]; exact .inl .rfl
  | syncChange => rw [s.takeSyncChange_frame]; exact .inl .rfl
  | tick _ _ hc =>
    rw [own.tick hc]
    split
    · exact .inl .rfl
    · exact .inl count
  | afterTick _ _ ready event hf => exact .inl (falls s hf)
  | beforeTick _ _ ready event hf hn hc =>
    rw [own.countTick hf hn hc]
    have h' := falls s.count hf
    exact .inl ⟨h'.state.trans count.state, h'.homing.trans count.homing, h'.position.trans count.position⟩
  | comparison n => rw [s.compareDeadline_frame n]; exact .inl .rfl
  | appendStep => exact .inl .rfl
  | appendCompletion => exact .inl .rfl
  | flushStep => exact .inl (same (by rw [s.returnHead_frame]))
  | flushCompletion => exact .inl .rfl
  | taken k u =>
    obtain hs | hu | hm := owner k u s.engine rfl
    · exact .inl hs
    · exact .inr (.inr (.inl hu))
    · exact .inr (.inr (.inr (.inr (.inr hm))))
  | issuedAndTaken k u =>
    obtain hs | hu | hm := owner k u _ rfl
    · exact .inl hs
    · exact .inr (.inr (.inl hu))
    · exact .inr (.inr (.inr (.inr (.inr hm))))
  | rowWritten k u => exact .inl (same (by rw [State.commandWrite_frame]))
  | write _ l d => exact .inl (same (by rw [Window.write_frame]))
  | read _ l => exact .inl (same (by rw [Window.read_frame]))

/-- A move of a counting step reaches neither the state of the axis nor its homing state. -/
theorem Axis.move_standing (x : Axis) (d : Direction) : (x.move d).state = x.state ∧ (x.move d).homing = x.homing := by
  unfold Axis.move
  split
  · exact ⟨rfl, rfl⟩
  · exact ⟨rfl, rfl⟩
  · split <;> exact ⟨rfl, rfl⟩
  · split <;> exact ⟨rfl, rfl⟩

theorem Axis.toEvaluate_iff (x : Axis) : x.toEvaluate = true ↔ x.state = .counting ∧ x.filtered ≠ x.phase := by
  simp [Axis.toEvaluate]

/-- Settles O21: of what can become of an axis, a move of its state or of its homing state leaves the cases of each list. -/
theorem axisAndHomingStatesChangeOnlyByTheirEvents : Obligations.AxisAndHomingStatesChangeOnlyByTheirEvents := by
  refine ⟨fun c n s t own h hne => ?state, fun c n s t own h hne => ?homing⟩
  case state =>
    obtain hs | hp | hc | ⟨b, rfl, he, ⟨d, _, ht⟩ | ⟨_, hf, _⟩⟩ | ⟨b, _, _, _, hs, _⟩ | ⟨k, u, rfl, hu, hm⟩ :=
      (effect_of_exec h).axis_cases own n
    · exact absurd hs.state hne
    · exact .inl hp
    · exact .inr (.inl hc)
    · rw [ht, (Axis.move_standing _ d).1] at hne
      exact absurd rfl hne
    · exact .inr (.inr (.inr ⟨⟨b, rfl⟩, ((Axis.toEvaluate_iff _).mp he).1, hf⟩))
    · exact absurd hs hne
    · generalize t.axis n = y at hm hne ⊢
      cases hm with
      | start _ hx => exact .inr (.inr (.inl ⟨u, hu, .inl ⟨rfl, hx, rfl⟩⟩))
      | resume _ hx => exact .inr (.inr (.inl ⟨u, hu, .inr (.inl ⟨rfl, hx, rfl⟩)⟩))
      | stop => exact .inr (.inr (.inl ⟨u, hu, .inr (.inr (.inl ⟨rfl, rfl⟩))⟩))
      | reset => exact .inr (.inr (.inl ⟨u, hu, .inr (.inr (.inr ⟨rfl, rfl⟩))⟩))
      | setpos | config | arm | cancel => exact absurd rfl hne
  case homing =>
    obtain hs | hp | hc | ⟨b, rfl, he, ⟨d, _, ht⟩ | ⟨_, _, hh, _⟩⟩ | ⟨b, rfl, _, hseek, _, href, hpos⟩ | ⟨k, u, rfl, hu, hm⟩ :=
      (effect_of_exec h).axis_cases own n
    · exact absurd hs.homing hne
    · exact .inl hp
    · exact .inr (.inl hc)
    · rw [ht, (Axis.move_standing _ d).2] at hne
      exact absurd rfl hne
    · exact absurd hh hne
    · exact .inr (.inr (.inl ⟨⟨b, rfl⟩, hseek, href, hpos⟩))
    · generalize t.axis n = y at hm hne ⊢
      cases hm with
      | arm => exact .inr (.inr (.inr ⟨u, hu, .inl ⟨rfl, rfl⟩⟩))
      | cancel _ hx => exact .inr (.inr (.inr ⟨u, hu, .inr (.inl ⟨rfl, hx, rfl⟩)⟩))
      | reset => exact .inr (.inr (.inr ⟨u, hu, .inr (.inr ⟨rfl, rfl⟩)⟩))
      | start | resume | stop | setpos | config => exact absurd rfl hne

/-! ## Loads fire nothing -/

/-- Everything a command row answers: an update of the engine and of the flags, or its owner's event on the part with the
engine of the issue. -/
theorem exec_row_next {k : Command} {u : UnitNo} {s t : State} (h : exec (k.row u) s = .next t) :
    (∃ e i, t = { s with engine := e, interrupts := i }) ∨ ∃ e, t = k.owner u (s.setEngine e) := by
  rw [exec_row] at h
  obtain ⟨_, rfl⟩ | ⟨_, rfl⟩ := answer_next h
  · exact .inl ⟨_, _, rfl⟩
  obtain ⟨_, e⟩ | ⟨_, _, e⟩ | ⟨_, e⟩ := s.carryOut_cases k u (k.owner u)
  · exact .inr ⟨_, e⟩
  · exact .inr ⟨_, e⟩
  · exact .inl ⟨_, _, e.trans (State.commandWrite_frame _ _)⟩

theorem State.setPosition_frame (n : AxisNo) (s : State) : s.setPosition n =
    { s with axes := (s.setPosition n).axes, engine := (s.setPosition n).engine
             interrupts := (s.setPosition n).interrupts } := by
  obtain ⟨_, _, _, e⟩ | e := s.setPosition_cases n <;> rw [e] <;> rfl

theorem State.configureAxis_frame (n : AxisNo) (s : State) : s.configureAxis n =
    { s with axes := (s.configureAxis n).axes, engine := (s.configureAxis n).engine
             interrupts := (s.configureAxis n).interrupts } := by
  obtain ⟨_, _, _, _, e⟩ | ⟨_, _, e⟩ := s.configureAxis_cases n <;> rw [e] <;> rfl

/-- AXIS_SETPOS and AXIS_CONFIG reach neither the schedules with their pool nor the lines (R54). -/
theorem exec_load_frame {k : Command} {u : UnitNo} {s t : State} (hk : k = .axisSetpos ∨ k = .axisConfig)
    (h : exec (k.row u) s = .next t) : t.schedules = s.schedules ∧ t.pool = s.pool ∧ t.lines = s.lines := by
  obtain ⟨e, i, rfl⟩ | ⟨e, rfl⟩ := exec_row_next h
  · exact ⟨rfl, rfl, rfl⟩
  obtain rfl | rfl := hk <;> simp only [Command.owner]
  · rw [State.setPosition_frame]
    exact ⟨rfl, rfl, rfl⟩
  · rw [State.configureAxis_frame]
    exact ⟨rfl, rfl, rfl⟩

/-- A command row that leaves the queue's part as it is, or runs, is not held back by the reset gate. -/
theorem running_of_exec_ne {c : Instr} {s t : State} (h : exec c s = .next t) (hc : ¬ Ungated c) (hne : t ≠ s) :
    s.inReset = false := by
  obtain ⟨_, _, rfl⟩ | ⟨hr | hu, _⟩ := exec_next h
  · exact absurd rfl hne
  · exact hr
  · exact absurd hu hc

/-- Settles O22: of what can become of an axis, a move of its position leaves the step of its decoder, the homing load, the
three commands that load it, and the resets of the part. -/
theorem positionChangesOnlyByAStepOrALoad : Obligations.PositionChangesOnlyByAStepOrALoad := by
  intro c n s t own h hne
  obtain hs | hp | hc | ⟨b, rfl, he, ⟨d, hd, _⟩ | ⟨_, _, _, hp⟩⟩ | ⟨b, rfl, hst, hseek, _⟩ | ⟨k, u, rfl, hu, hm⟩ :=
    (effect_of_exec h).axis_cases own n
  · exact absurd hs.position hne
  · exact .inl hp
  · exact .inr (.inl hc)
  · have hr : s.inReset = false :=
      running_of_exec_ne h (by rintro (e | e) <;> cases e) (fun e => hne (by rw [e]))
    obtain ⟨hcount, hpair⟩ := (Axis.toEvaluate_iff _).mp he
    exact .inr (.inr (.inl ⟨⟨b, rfl⟩, d, hr, hcount, hpair, hd⟩))
  · exact absurd hp hne
  · refine .inr (.inr (.inr (.inl ⟨⟨⟨b, rfl⟩, hst, hseek⟩, ?_⟩)))
    obtain ⟨_, _, rfl⟩ | ⟨_, rfl⟩ := exec_next h
    · exact ⟨rfl, rfl, rfl⟩
    · rw [event, State.takeZChange_frame]
      exact ⟨rfl, rfl, rfl⟩
  · have hne' := hne
    generalize t.axis n = y at hm hne
    cases hm with
    | setpos => exact .inr (.inr (.inr (.inr (.inl ⟨u, hu, .inl rfl, exec_load_frame (.inl rfl) h⟩))))
    | config _ hx => exact .inr (.inr (.inr (.inr (.inl ⟨u, hu, .inr ⟨rfl, hx⟩, exec_load_frame (.inr rfl) h⟩))))
    | reset =>
      refine .inr (.inr (.inr (.inr (.inr ⟨u, hu, rfl, ?_⟩))))
      obtain ⟨e, i, rfl⟩ | ⟨e, rfl⟩ := exec_row_next h
      · exact absurd rfl hne'
      · subst hu
        refine ⟨?_, rfl, rfl⟩
        simp [Command.owner, State.resetAxis, State.schedule, Schedule.reset, State.setSchedule, State.setPool,
          State.complete]
    | start | resume | stop | arm | cancel => exact absurd rfl hne

end Sys2Proof.Machine
end

section
/-! The slots under every event: what is in the free list and in the four schedules is rearranged and never lost, schedules
grow at append steps alone, and every scheduled entry stays valid for its axis (R29, R35, R39, R40, R57). -/
namespace Sys2Proof.Machine

/-! ## Where the slots are -/

section
variable (s : State)

theorem State.schedules_toList :
    s.schedules.toList = [s.schedule 0, s.schedule 1, s.schedule 2, s.schedule 3] :=
  List.ext_getElem (by simp) fun i hi hi' => by
    have : i < 4 := by simpa using hi'
    interval_cases i <;> simp [State.schedule]

theorem State.schedule_mem_toList (n : AxisNo) : s.schedule n ∈ s.schedules.toList := by
  simp [State.schedule]

/-- How often a slot stands in the free list and the schedules together. -/
theorem State.count_allSlots (k : Slot) :
    s.allSlots.count k = s.pool.free.count k + ∑ n, (s.schedule n).list.count k := by
  simp [State.allSlots, s.schedules_toList, Fin.sum_univ_four]
  omega

/-- One schedule takes another list: the sum over the schedules moves by that list's part alone. -/
theorem sum_count_set (v w : AxisNo → List Slot) (n : AxisNo) (k : Slot) (h : ∀ m, m ≠ n → w m = v m) :
    ∑ m, (w m).count k + (v n).count k = ∑ m, (v m).count k + (w n).count k := by
  rw [← Finset.add_sum_erase _ _ (Finset.mem_univ n), ← Finset.add_sum_erase _ (fun m => (v m).count k) (Finset.mem_univ n)]
  have : ∑ m ∈ Finset.univ.erase n, (w m).count k = ∑ m ∈ Finset.univ.erase n, (v m).count k :=
    Finset.sum_congr rfl fun m hm => by rw [h m (Finset.ne_of_mem_erase hm)]
  omega

end

section
variable {s : State}

/-- A free slot is in no schedule. -/
theorem State.not_mem_list_of_mem_free (h : s.allSlots.Nodup) {k : Slot} (hk : k ∈ s.pool.free) (n : AxisNo) :
    k ∉ (s.schedule n).list := fun hn =>
  List.disjoint_of_nodup_append h hk (List.mem_flatMap.mpr ⟨_, s.schedule_mem_toList n, hn⟩)

/-- A slot is in one schedule at most. -/
theorem State.axis_eq_of_mem_list (h : s.allSlots.Nodup) {k : Slot} {n m : AxisNo} (hn : k ∈ (s.schedule n).list)
    (hm : k ∈ (s.schedule m).list) : n = m := by
  have hd := (List.nodup_flatMap.mp (List.Nodup.of_append_right h)).2
  by_contra hne
  have lt : ∀ i j : AxisNo, i < j → k ∈ (s.schedule i).list → k ∉ (s.schedule j).list := fun i j hij hi hj => by
    have := List.pairwise_iff_getElem.mp hd i j (by simp) (by simp) hij
    exact this (by simpa [State.schedule] using hi) (by simpa [State.schedule] using hj)
  rcases lt_or_gt_of_ne hne with hlt | hlt
  · exact lt n m hlt hn hm
  · exact lt m n hlt hm hn

end

/-! ## Events that keep the slots -/

/-- An append that executes in the second engine is the one that executes in the first, on the same staged entries. -/
def Engine.SameBatch (e f : Engine) : Prop :=
  ∀ p, f.phase = .appending p → e.phase = .appending p ∧ f.unit = e.unit ∧ f.staged = e.staged

theorem Engine.SameBatch.of_eq {e f : Engine} (h : f = e) : e.SameBatch f := fun _ hp => by
  subst h
  exact ⟨hp, rfl, rfl⟩

theorem Engine.SameBatch.of_not_appending {e f : Engine} (h : ∀ p, f.phase ≠ .appending p) : e.SameBatch f :=
  fun p hp => absurd hp (h p)

/-- The second state has the slots of the first in their places or nearer to the free list, and what it needs to keep the
entries in them valid. -/
structure State.SlotsKept (s t : State) : Prop where
  slots : t.allSlots.Perm s.allSlots
  free : s.pool.free.length ≤ t.pool.free.length
  list : ∀ n, (t.schedule n).list.Sublist (s.schedule n).list
  config : ∀ n, (t.axis n).config = (s.axis n).config
  batch : s.engine.SameBatch t.engine
  entry : s.allSlots.Nodup → (∀ n, (s.axis n).config.Sound) → ∀ n, ∀ k ∈ (t.schedule n).list,
    (s.entry k).ValidFor (s.axis n).config → (t.entry k).ValidFor (s.axis n).config

section
variable {s t u : State}

theorem State.SlotsKept.trans (h : s.SlotsKept t) (g : t.SlotsKept u) : s.SlotsKept u where
  slots := g.slots.trans h.slots
  free := h.free.trans g.free
  list n := (g.list n).trans (h.list n)
  config n := (g.config n).trans (h.config n)
  batch p hp := by
    obtain ⟨hp, hu, hs⟩ := g.batch p hp
    obtain ⟨hp, hu', hs'⟩ := h.batch p hp
    exact ⟨hp, hu.trans hu', hs.trans hs'⟩
  entry hn hc n k hk hv := by
    have hv' := h.entry hn hc n k ((g.list n).subset hk) hv
    rw [← h.config n] at hv' ⊢
    exact g.entry (h.slots.nodup_iff.mpr hn) (fun m => h.config m ▸ hc m) n k hk hv'

/-- Nothing moves. -/
theorem State.SlotsKept.of_same (hp : t.pool = s.pool) (hl : ∀ n, (t.schedule n).list = (s.schedule n).list)
    (hc : ∀ n, (t.axis n).config = (s.axis n).config) (hb : s.engine.SameBatch t.engine) : s.SlotsKept t where
  slots := List.perm_iff_count.mpr fun k => by simp only [State.count_allSlots, hl, hp]
  free := by rw [hp]
  list n := by rw [hl n]
  config := hc
  batch := hb
  entry _ _ n k _ hv := by
    rw [State.entry, hp]
    exact hv

theorem State.SlotsKept.refl (s : State) : s.SlotsKept s := .of_same rfl (fun _ => rfl) (fun _ => rfl) (.of_eq rfl)

theorem State.schedule_of_set {n : AxisNo} {x : Schedule} (h : t.schedules = s.schedules.set n x) (m : AxisNo) :
    t.schedule m = if n = m then x else s.schedule m := by
  rw [State.schedule, h]
  exact s.setSchedule_schedule n m x

/-- The head of one schedule joins the tail of the free list. -/
theorem State.SlotsKept.of_head {n : AxisNo} {k : Slot} {rest : List Slot} (hl : (s.schedule n).list = k :: rest)
    {x : Schedule} (ht : t.schedules = s.schedules.set n x) (hx : x.list = rest)
    (hf : t.pool.free = s.pool.free ++ [k]) (he : ∀ j, j ≠ k → t.entry j = s.entry j)
    (hc : ∀ m, (t.axis m).config = (s.axis m).config) (hb : s.engine.SameBatch t.engine) : s.SlotsKept t := by
  have hself : (t.schedule n).list = rest := by rw [State.schedule_of_set ht, if_pos rfl, hx]
  have hothers : ∀ m, m ≠ n → (t.schedule m).list = (s.schedule m).list := fun m hm => by
    rw [State.schedule_of_set ht, if_neg (Ne.symm hm)]
  have slots : t.allSlots.Perm s.allSlots := List.perm_iff_count.mpr fun j => by
    have hsum := sum_count_set (fun m => (s.schedule m).list) (fun m => (t.schedule m).list) n j hothers
    rw [hl, hself, List.count_cons] at hsum
    rw [State.count_allSlots, State.count_allSlots, hf, List.count_append, List.count_singleton]
    omega
  refine ⟨slots, by simp [hf], fun m => ?_, hc, hb, fun hn _ m j hj hv => ?_⟩
  · by_cases hm : m = n
    · subst hm
      rw [hself, hl]
      exact List.sublist_cons_self k rest
    · rw [hothers m hm]
  · have hne : j ≠ k := by
      rintro rfl
      exact State.not_mem_list_of_mem_free (slots.nodup_iff.mpr hn) (k := j) (by rw [hf]; simp) m hj
    rw [he j hne]
    exact hv

end

/-! ## The configuration of an axis -/

section
variable (s : State)

theorem State.setAxis_config (n m : AxisNo) (x : Axis) (hx : x.config = (s.axis n).config) :
    ((s.setAxis n x).axis m).config = (s.axis m).config := by
  rw [State.setAxis_axis]
  split
  · subst m; exact hx
  · rfl

theorem Axis.move_config (x : Axis) (d : Direction) : (x.move d).config = x.config := by
  unfold Axis.move
  split
  · rfl
  · rfl
  · split <;> rfl
  · split <;> rfl

theorem State.countStep_config (n : AxisNo) (h : Option HostAction) (d : Direction) (m : AxisNo) :
    ((s.countStep n h d).axis m).config = (s.axis m).config := by
  rw [State.countStep_frame]
  exact s.setAxis_config n m _ (Axis.move_config _ d)

theorem State.phaseError_config (n : AxisNo) (h : Option HostAction) (m : AxisNo) :
    ((s.phaseError n h).axis m).config = (s.axis m).config := by
  simp only [State.phaseError]
  split
  · rw [State.raise_axis, State.offer_axis, State.perform_axis, State.offerIf_axis]
    exact s.setAxis_config n m _ rfl
  · rw [State.perform_axis, State.offerIf_axis]
    exact s.setAxis_config n m _ rfl

theorem State.takeEvaluation_config (e : AxisEvent) (m : AxisNo) :
    ((s.takeEvaluation e).axis m).config = (s.axis m).config := by
  have pair : ((s.takePair e.axis).axis m).config = (s.axis m).config := s.setAxis_config _ m _ rfl
  obtain ⟨_, h⟩ | ⟨_, h⟩ := s.takeEvaluation_cases e <;> rw [h]
  · rfl
  obtain ⟨d, _, h⟩ | ⟨_, h⟩ | ⟨_, h⟩ := s.evaluate_cases e <;> rw [h]
  · rw [State.countStep_config, pair]
  · rw [State.phaseError_config, pair]
  · exact pair

theorem State.homingLoad_config (n m : AxisNo) : ((s.homingLoad n).axis m).config = (s.axis m).config := by
  rw [State.homingLoad, State.offer_axis]
  exact s.setAxis_config n m _ rfl

theorem State.takeIndex_config (n : AxisNo) (h : Option HostAction) (m : AxisNo) :
    ((s.takeIndex n h).axis m).config = (s.axis m).config := by
  simp only [State.takeIndex]
  split
  · rw [State.homingLoad_config, State.perform_axis, State.offerIf_axis]
  · rw [State.perform_axis, State.offerIf_axis]

theorem State.takeZChange_config (e : AxisEvent) (m : AxisNo) :
    ((s.takeZChange e).axis m).config = (s.axis m).config := by
  have taken := s.setAxis_config e.axis m { s.axis e.axis with zChanged := false } rfl
  obtain ⟨_, h⟩ | ⟨_, _, h⟩ | ⟨_, _, h⟩ := s.takeZChange_cases e <;> rw [h]
  · rfl
  · exact taken
  · rw [State.takeIndex_config]
    exact taken

theorem State.takeSample_config (f : FilterInput) (m : AxisNo) :
    ((s.takeSample f).axis m).config = (s.axis m).config := by
  cases f with
  | axis n a b z => exact s.setAxis_config n m _ rfl
  | trigger n raw => rfl
  | sync raw => rfl

theorem State.count_config (m : AxisNo) : (s.count.axis m).config = (s.axis m).config := by
  simp [State.count, State.axis, Axis.tick]

end

/-! ## Fires -/

section
variable {s : State} {n : AxisNo} {k : Slot}

/-- The state after steps 1 and 2 of a fire (R55). -/
def State.fireOutput (n : AxisNo) (k : Slot) (s : State) : State :=
  (s.sendOutput (s.entry k)).offerIf ((s.entry k).record ≠ .none) (.schedule n)
    (s.entryRecord .compare (s.axis n).sampledAt n k ((s.entry k).remaining - 1)
      (if (s.entry k).record = .gang then some s.gang else none))

theorem State.fireOutput_eq (n : AxisNo) (k : Slot) (s : State) : s.fireOutput n k =
    { s with lines := (s.sendOutput (s.entry k)).lines, journal := (s.fireOutput n k).journal
             interrupts := (s.fireOutput n k).interrupts } := s.fireOutput_frame _ _ _ _

/-- A fire that ends the count of its entry retires it (R58). -/
theorem State.fire_of_last (h : (s.entry k).remaining - 1 = 0) :
    s.fire n k =
      ((s.fireOutput n k).setEntry k { s.entry k with remaining := (s.entry k).remaining - 1 }).departHead n := by
  rw [State.fire, if_pos h]
  rfl

/-- A fire that leaves its entry in the schedule advances its target (R57). -/
theorem State.fire_of_more (h : (s.entry k).remaining - 1 ≠ 0) :
    s.fire n k = (s.fireOutput n k).setEntry k { s.entry k with
      remaining := (s.entry k).remaining - 1
      target := (s.axis n).config.advance (s.entry k).target (s.entry k).stride } := by
  rw [State.fire, if_neg h]
  rfl

/-- A value below a modulus of at most 16,777,216 is read back from its halfwords. -/
theorem toInt_ofInt_emod {m : Nat} (x : Int) (h0 : 0 < m) (h1 : m ≤ 16777216) :
    (BitVec.ofInt 32 (x % (m : Int))).toInt = x % (m : Int) := by
  have hlt := Int.emod_lt_of_pos x (b := (m : Int)) (by omega)
  have hge := Int.emod_nonneg x (b := (m : Int)) (by omega)
  rw [BitVec.toInt_ofInt, Int.bmod_eq_of_le (by omega) (by omega)]

/-- The advance of a target stays within the range of its axis (R57). -/
theorem AxisConfig.advance_inRevolution {c : AxisConfig} (hc : c.Sound) (hr : c.range = .rotary) (target stride : BitVec 32) :
    inRevolution (c.advance target stride) c.modulus = true := by
  obtain ⟨h1, h2, _⟩ := hc hr
  simp only [Config.minModulus, Config.maxModulus] at h1 h2
  rw [inRevolution_iff]
  simp only [AxisConfig.advance, hr]
  rw [toInt_ofInt_emod _ (by omega) h2]
  exact ⟨Int.emod_nonneg _ (by omega), Int.emod_lt_of_pos _ (by omega)⟩

theorem Entry.ValidFor.advance {c : AxisConfig} {e : Entry} (hv : e.ValidFor c) (hc : c.Sound)
    (h : e.remaining - 1 ≠ 0) :
    ({ e with remaining := e.remaining - 1, target := c.advance e.target e.stride } : Entry).ValidFor c := by
  obtain ⟨h1, h2, h3, _, h5⟩ := hv
  have hr : (e.remaining - 1).toNat = e.remaining.toNat - 1 := by bv_omega
  have hne : (e.remaining - 1).toNat ≠ 0 := fun h0 => h (BitVec.eq_of_toNat_eq h0)
  exact ⟨Nat.one_le_iff_ne_zero.mpr hne, by simp only [hr]; omega, h3,
    fun hrot => AxisConfig.advance_inRevolution hc hrot _ _, h5⟩

theorem State.slotsKept_departHead (n : AxisNo) (s : State) : s.SlotsKept (s.departHead n) := by
  cases hl : (s.schedule n).list with
  | nil =>
    have hs : (s.departHead n).schedules = s.schedules.set n
        { s.schedule n with compareDue := (s.schedule n).compareDue || !(s.schedule n).list.isEmpty } := by
      simp only [State.departHead, s.returnHead_nil n hl]
    refine .of_same ?_ (fun m => ?_) (fun m => by rw [s.departHead_frame n]; rfl) (.of_eq (s.departHead_engine n))
    · simp only [State.departHead, s.returnHead_nil n hl]
    · rw [State.schedule_of_set hs]
      split
      · subst m; rfl
      · rfl
  | cons k rest =>
    rw [s.departHead_cons n k hl]
    exact .of_head hl rfl rfl rfl (fun _ _ => rfl) (fun _ => rfl) (.of_eq rfl)

theorem State.slotsKept_returnHead (n : AxisNo) (s : State) : s.SlotsKept (s.returnHead n) := by
  obtain ⟨_, e⟩ | ⟨k, rest, hl, e⟩ := s.returnHead_cases n <;> rw [e]
  · exact .refl s
  · exact .of_head hl rfl rfl rfl (fun _ _ => rfl) (fun _ => rfl) (.of_eq rfl)

/-- A fire keeps the slots: its entry stays with one fire less, or its slot goes to the free list. -/
theorem State.slotsKept_fire {rest : List Slot} (hl : (s.schedule n).list = k :: rest) : s.SlotsKept (s.fire n k) := by
  have out := s.fireOutput_eq n k
  by_cases h : (s.entry k).remaining - 1 = 0
  · have hl' : (((s.fireOutput n k).setEntry k { s.entry k with
        remaining := (s.entry k).remaining - 1 }).schedule n).list = k :: rest := by
      rw [out]; exact hl
    rw [State.fire_of_last h, State.departHead_cons _ _ _ hl', out]
    exact .of_head hl rfl rfl rfl (fun j hj => (State.setEntry_entry s k j _).trans (if_neg (Ne.symm hj)))
      (fun _ => rfl) (.of_eq rfl)
  · rw [State.fire_of_more h, out]
    refine { State.SlotsKept.refl s with entry := fun hn hc m j hj hv => ?_ }
    by_cases hjk : k = j
    · subst hjk
      have hm : n = m := State.axis_eq_of_mem_list hn (hl ▸ List.mem_cons_self) hj
      subst hm
      exact (State.setEntry_entry_self s k _) ▸ hv.advance (hc n) h
    · exact ((State.setEntry_entry s k j _).trans (if_neg hjk)) ▸ hv

theorem State.slotsKept_arrival (n : AxisNo) (s : State) : s.SlotsKept (s.arrival n) := by
  obtain e | ⟨k, rest, hl, _, _, _, e⟩ := s.arrival_cases n <;> rw [e]
  · exact .refl s
  · exact State.slotsKept_fire hl

end

end Sys2Proof.Machine
end

section
/-! The slots under every command (R35, R39, R40), and the validity of every scheduled entry (R29, R31, R57). -/
namespace Sys2Proof.Machine

/-! ## The events of a tick -/

section
variable {s t : State}

/-- Of an event that reaches neither the schedules with their pool nor the engine. -/
theorem State.SlotsKept.of_frame (hs : t.schedules = s.schedules) (hp : t.pool = s.pool)
    (hc : ∀ n, (t.axis n).config = (s.axis n).config) (he : t.engine = s.engine) : s.SlotsKept t :=
  .of_same hp (fun n => by rw [State.schedule, hs]; rfl) hc (.of_eq he)

theorem State.slotsKept_countStep (n : AxisNo) (h : Option HostAction) (d : Direction) (s : State) :
    s.SlotsKept (s.countStep n h d) := by
  let moved := ((s.setAxis n ((s.axis n).move d)).offerIf ((s.axis n).wraps d && (s.axis n).config.recordWraps) (.counter n)
    { cause := .wrap, axis := some n, stamp := (s.axis n).sampledAt, position := some ((s.axis n).move d).position,
      aux := some (d.code.setWidth 16) }).perform h
  have before : s.SlotsKept moved := .of_frame (State.offerIf_schedules _ _ _ _) (State.offerIf_pool _ _ _ _)
    (fun m => by
      rw [State.perform_axis, State.offerIf_axis]
      exact s.setAxis_config n m _ (Axis.move_config _ d))
    (State.offerIf_engine _ _ _ _)
  exact before.trans (moved.slotsKept_arrival n)

theorem State.slotsKept_takeEvaluation (e : AxisEvent) (s : State) : s.SlotsKept (s.takeEvaluation e) := by
  have config := s.takeEvaluation_config e
  have pair : s.SlotsKept (s.takePair e.axis) := .of_frame rfl rfl (fun m => s.setAxis_config _ m _ rfl) rfl
  obtain ⟨_, h⟩ | ⟨_, h⟩ := s.takeEvaluation_cases e <;> rw [h] at config ⊢
  · exact .of_frame rfl rfl config rfl
  obtain ⟨d, _, h⟩ | ⟨_, h⟩ | ⟨_, h⟩ := s.evaluate_cases e <;> rw [h] at config ⊢
  · exact pair.trans (State.slotsKept_countStep _ _ _ _)
  · rw [State.phaseError_frame] at config ⊢
    exact .of_frame rfl rfl config rfl
  · exact .of_frame rfl rfl config rfl

/-- The second state's schedules take up comparisons, and are otherwise the first's. -/
theorem State.SlotsKept.of_takeUpAll (hs : t.schedules = s.takeUpAll.schedules ∨ t.schedules = s.schedules)
    (hp : t.pool = s.pool) (hc : ∀ n, (t.axis n).config = (s.axis n).config) (he : t.engine = s.engine) :
    s.SlotsKept t := by
  refine .of_same hp (fun n => ?_) hc (.of_eq he)
  obtain hs | hs := hs
  · rw [State.schedule, hs]
    exact (congrArg Schedule.list (s.takeUpAll_schedule n) :)
  · rw [State.schedule, hs]
    rfl

theorem State.slotsKept_takeSyncChange (s : State) : s.SlotsKept s.takeSyncChange := by
  obtain ⟨_, h⟩ | ⟨_, _, h⟩ | ⟨_, _, h⟩ := s.takeSyncChange_cases <;> rw [h]
  · exact .refl s
  · exact .of_frame rfl rfl (fun _ => rfl) rfl
  · unfold State.takeSync
    split
    · exact .of_takeUpAll (.inl rfl) rfl (fun _ => rfl) rfl
    · rw [State.offerIf_frame]
      exact .of_frame rfl rfl (fun _ => rfl) rfl

theorem State.slotsKept_advance (s : State) : s.SlotsKept s.advance := by
  refine .of_takeUpAll ?_ rfl (fun _ => rfl) rfl
  simp only [State.advance]
  split
  · exact .inr rfl
  · exact .inl rfl

/-- Every event of a tick keeps the slots. -/
theorem slotsKept_keptByEvents (s : State) : KeptByEvents (fun t => s.SlotsKept t) where
  evaluation e t h := h.trans (t.slotsKept_takeEvaluation e)
  zChange e t h := h.trans (.of_frame (by rw [t.takeZChange_frame e]) (by rw [t.takeZChange_frame e])
    (t.takeZChange_config e) (by rw [t.takeZChange_frame e]))
  levelChange n t h := h.trans (by
    rw [t.takeLevelChange_frame n]
    exact .of_frame rfl rfl (fun _ => rfl) rfl)
  syncChange t h := h.trans t.slotsKept_takeSyncChange
  holdoff _ _ h _ := h.trans (.of_frame rfl rfl (fun _ => rfl) rfl)
  width _ _ h _ := h.trans (.of_frame rfl rfl (fun _ => rfl) rfl)
  gap _ _ h _ := h.trans (.of_frame rfl rfl (fun _ => rfl) rfl)
  latch _ h _ := h.trans (.of_frame rfl rfl (fun _ => rfl) rfl)
  count t h := h.trans (.of_frame rfl rfl t.count_config rfl)
  advance t h := h.trans t.slotsKept_advance
  sample f t h := h.trans (.of_frame (by rw [t.takeSample_frame f]) (by rw [t.takeSample_frame f])
    (t.takeSample_config f) (by rw [t.takeSample_frame f]))

theorem State.slotsKept_expire (n : AxisNo) (k : Slot) (s : State) : s.SlotsKept (s.expire n k) := by
  have offered : s.SlotsKept (s.offer (.schedule n) (s.entryRecord .expired s.now n k (s.entry k).remaining none)) :=
    .of_frame rfl rfl (fun _ => rfl) rfl
  exact offered.trans (State.slotsKept_departHead n _)

theorem State.slotsKept_compareDeadline (n : AxisNo) (s : State) : s.SlotsKept (s.compareDeadline n) := by
  have compared : s.SlotsKept (s.setSchedule n { s.schedule n with compareDue := false }) :=
    .of_same rfl (fun m => by
      rw [State.setSchedule_schedule]
      split
      · subst m; rfl
      · rfl) (fun _ => rfl) (.of_eq rfl)
  obtain e | ⟨k, rest, _, _, _, e⟩ := s.compareDeadline_cases n <;> rw [e]
  · exact compared
  · exact compared.trans (State.slotsKept_expire n k _)

end

/-! ## What moves slots otherwise -/

/-- A configuration that an accepted record gives, or the reset value (R20). -/
structure AxisConfig.Admitted (c : AxisConfig) : Prop where
  sound : c.Sound
  one_le : 1 ≤ c.quota.toNat
  le : c.quota.toNat ≤ 128

/-- Everything an event of the table does to the slots, but for the resets of the part: it keeps them, an append step takes
one, an append is accepted, or an axis with an empty schedule is given another configuration. -/
inductive State.SlotsMove (s : State) : State → Prop
  | kept {t : State} (h : s.SlotsKept t) : SlotsMove s t
  | appended {p : AppendProgress} {k : Slot} {rest : List Slot} (hp : s.engine.phase = .appending p) (hl : p.left ≠ 0)
      (hf : s.pool.free = k :: rest) : SlotsMove s (s.appendEntry p k rest)
  | accepted (hfits : s.AppendFits) (hb : s.appendBadEntry (axisOf s.engine.unit) = none)
      (hq : (s.schedule (axisOf s.engine.unit)).list.length + (s.arg 1).toNat ≤
        (s.axis (axisOf s.engine.unit)).config.quota.toNat)
      (hf : (s.arg 1).toNat ≤ s.pool.free.length) :
      SlotsMove s (s.setEngine { s.engine with
        phase := .appending { next := (s.arg 0).toNat, left := (s.arg 1).toNat, first := none } })
  | configured {t : State} (n : AxisNo) (x : Axis) (h : s.SlotsKept t) (hempty : (t.schedule n).list = [])
      (hidle : t.engine.phase = .idle) (hc : x.config.Admitted) : SlotsMove s (t.setAxis n x)

/-- A part as the resets leave its slots (R38, R76, R171). -/
structure State.Blank (t : State) : Prop where
  pool : t.pool = Pool.reset
  schedule : ∀ n, t.schedule n = Schedule.reset
  config : ∀ n, (t.axis n).config = AxisConfig.reset
  idle : t.engine.phase = .idle

theorem AxisConfig.reset_admitted : AxisConfig.reset.Admitted := ⟨nofun, by decide, by decide⟩

/-- A record that passes R20 gives an admitted configuration. -/
theorem AxisStaging.toConfig_admitted {r : AxisStaging} (h : r.firstBad = none) : r.toConfig.Admitted := by
  have pass := (r.firstBad_spec.2).mp h
  have rotary : r.toConfig.range = .rotary → r.range = 1 := by
    have : ∀ c : BitVec 2, (Range.ofCode c).getD .linear = .rotary → c = 1 := by decide
    exact this _
  have h14 := pass 14
  simp only [AxisStaging.Fails] at h14
  refine ⟨fun hr => ?_, ?_, ?_⟩
  · have h3 := pass 3
    have h13 := pass 13
    simp only [AxisStaging.Fails, rotary hr, true_and] at h3 h13
    exact ⟨by simp only [Config.minModulus, AxisStaging.toConfig]; omega,
      by simp only [Config.maxModulus, AxisStaging.toConfig]; omega,
      (inRevolution_iff _ _).mpr (by simp only [AxisStaging.toConfig]; omega)⟩
  · simp only [AxisStaging.toConfig]; omega
  · simp only [AxisStaging.toConfig]; omega

/-- The checks of R40 that a batch without a refusal has passed. -/
theorem State.appendRefusal_eq_none {n : AxisNo} {s : State} (h : s.appendRefusal n = none) :
    s.AppendFits ∧ s.appendBadEntry n = none ∧
    (s.schedule n).list.length + (s.arg 1).toNat ≤ (s.axis n).config.quota.toNat ∧
    (s.arg 1).toNat ≤ s.pool.free.length := by
  have hfirst : (s.arg 0).toNat ≤ 7 := by
    by_contra hgt
    rw [State.appendRefusal_first_out (Nat.lt_of_not_le hgt)] at h
    cases h
  have hfits : s.AppendFits := by
    by_contra hbad
    have hc : (s.arg 1).toNat = 0 ∨ 8 < (s.arg 1).toNat ∨ 8 < (s.arg 0).toNat + (s.arg 1).toNat := by
      by_contra hc
      exact hbad ⟨hfirst, by omega, by omega⟩
    rw [State.appendRefusal_count_out hfirst hc] at h
    cases h
  rw [State.appendRefusal_of_fits hfits] at h
  cases hb : s.appendBadEntry n with
  | some p => rw [hb, Option.elim_some] at h; cases h
  | none =>
    rw [hb, Option.elim_none] at h
    split at h
    · cases h
    split at h
    · cases h
    exact ⟨hfits, rfl, by omega, by omega⟩

/-- AXIS_RESET empties its schedule into the free list, and gives its axis the reset configuration (R22, R75). -/
theorem State.slotsMove_resetAxis (n : AxisNo) (s : State) : s.SlotsMove (s.resetAxis n) := by
  let t := ((s.setSchedule n Schedule.reset).setPool
    { s.pool with free := s.pool.free ++ (s.schedule n).list }).complete .ok 0 0
  have ht : t.schedules = s.schedules.set n Schedule.reset := rfl
  have hself : (t.schedule n).list = [] := by rw [State.schedule_of_set ht, if_pos rfl]; rfl
  have hothers : ∀ m, m ≠ n → (t.schedule m).list = (s.schedule m).list := fun m hm => by
    rw [State.schedule_of_set ht, if_neg (Ne.symm hm)]
  have hfree : t.pool.free = s.pool.free ++ (s.schedule n).list := rfl
  refine .configured (t := t) n (s.axis n).resetKeeping ⟨?_, ?_, fun m => ?_, fun _ => rfl,
    .of_not_appending nofun, fun _ _ _ _ _ hv => hv⟩ hself rfl AxisConfig.reset_admitted
  · refine List.perm_iff_count.mpr fun k => ?_
    have hsum := sum_count_set (fun m => (s.schedule m).list) (fun m => (t.schedule m).list) n k hothers
    rw [hself, List.count_nil] at hsum
    rw [State.count_allSlots, State.count_allSlots, hfree, List.count_append]
    omega
  · simp [hfree]
  · by_cases hm : m = n
    · rw [hm, hself]
      exact List.nil_sublist _
    · rw [hothers m hm]

/-- Every owner's event moves the slots in one of these ways, or resets the part. -/
theorem Command.owner_slots (k : Command) (u : UnitNo) {s : State} (hw : s.awaits k u = true) :
    s.SlotsMove (k.owner u s) ∨ (k.owner u s).Blank := by
  have done : ∀ {t : State} {code detail aux}, s.SlotsKept t →
      s.SlotsMove (t.complete code detail aux) ∨ (t.complete code detail aux).Blank := fun h =>
    .inl (.kept (h.trans (.of_same rfl (fun _ => rfl) (fun _ => rfl)
      (.of_not_appending nofun))))
  have self := State.SlotsKept.refl s
  have axis : ∀ (n : AxisNo) (x : Axis), x.config = (s.axis n).config → s.SlotsKept (s.setAxis n x) := fun n x hx =>
    .of_frame rfl rfl (fun m => s.setAxis_config n m x hx) rfl
  have schedule : ∀ (t : State) (n : AxisNo) (c : Schedule), s.SlotsKept t → c.list = (t.schedule n).list →
      s.SlotsKept (t.setSchedule n c) := fun t n c ht hc =>
    ht.trans (.of_same rfl (fun m => by
      rw [State.setSchedule_schedule]
      split
      · subst m; exact hc
      · rfl) (fun _ => rfl) (.of_eq rfl))
  cases k <;> simp only [Command.owner]
  case schedAppend =>
    obtain ⟨_, _, _, e⟩ | ⟨hr, e⟩ := s.acceptAppend_cases (axisOf u) <;> rw [e]
    · exact done self
    · have hu : s.engine.unit = u := ((State.awaits_iff _ _ _).mp hw).2.2
      rw [← hu] at hr
      obtain ⟨hfits, hb, hq, hf⟩ := State.appendRefusal_eq_none hr
      exact .inl (.accepted hfits hb hq hf)
  case schedSkip =>
    obtain ⟨_, e⟩ | ⟨k, rest, _, e⟩ := s.skipHead_cases (axisOf u) <;> rw [e]
    · exact done self
    · exact done (s.slotsKept_departHead _)
  case schedFlush =>
    obtain ⟨_, e⟩ | ⟨_, e⟩ := s.acceptFlush_cases (axisOf u) <;> rw [e]
    · exact done self
    · exact .inl (.kept ((schedule s (axisOf u) { s.schedule (axisOf u) with draining := true } self rfl).trans (.of_same rfl (fun _ => rfl) (fun _ => rfl)
        (.of_not_appending nofun))))
  case schedHold => exact done (schedule s _ _ self rfl)
  case schedRun => exact done (schedule s _ _ self rfl)
  case axisConfig =>
    obtain ⟨_, hl, _, hb, e⟩ | ⟨_, _, e⟩ := s.configureAxis_cases (axisOf u) <;> rw [e]
    · exact .inl (.configured (t := s.complete .ok 0 0) (axisOf u) _
        (.of_same rfl (fun _ => rfl) (fun _ => rfl) (.of_not_appending nofun))
        hl rfl (AxisStaging.toConfig_admitted hb))
    · exact done self
  case axisStart =>
    obtain ⟨_, e⟩ | ⟨_, e⟩ := s.startAxis_cases (axisOf u) <;> rw [e]
    · exact done (axis _ _ rfl)
    · exact done self
  case axisStop =>
    obtain ⟨_, e⟩ | ⟨_, e⟩ | ⟨_, e⟩ := s.stopAxis_cases (axisOf u) <;> rw [e]
    · exact done self
    · exact done (axis _ _ rfl)
    · exact done (schedule _ _ _ (axis _ _ rfl) rfl)
  case axisResume =>
    obtain ⟨_, e⟩ | ⟨_, e⟩ := s.resumeAxis_cases (axisOf u) <;> rw [e]
    · exact done (schedule _ _ _ (axis _ _ rfl) rfl)
    · exact done self
  case axisSetpos =>
    obtain ⟨_, _, _, e⟩ | e := s.setPosition_cases (axisOf u) <;> rw [e]
    · exact done (axis _ _ rfl)
    · exact done self
  case axisClrerr => exact done (axis _ _ rfl)
  case axisReset => exact .inl (State.slotsMove_resetAxis (axisOf u) s)
  case homeArm =>
    obtain ⟨_, _, e⟩ | ⟨_, e⟩ := s.armHoming_cases (axisOf u) <;> rw [e]
    · exact done self
    · exact done (axis _ _ rfl)
  case homeCancel =>
    obtain ⟨_, _, e⟩ | ⟨_, _, e⟩ := s.cancelHoming_cases (axisOf u) <;> rw [e]
    · exact done self
    · exact done (axis _ _ rfl)
  case timeSet =>
    exact done (t := State.offer _ _ _) (.of_takeUpAll (.inl rfl) rfl (fun _ => rfl) rfl)
  case syncDisarm =>
    obtain ⟨_, e⟩ | e := s.disarmSync_cases <;> rw [e]
    · exact done self
    · exact done (.of_frame rfl rfl (fun _ => rfl) rfl)
  case chipReset =>
    exact .inr ⟨rfl, fun n => by simp [State.resetChip, State.schedule, State.complete, State.reset],
      fun n => by simp [State.resetChip, State.axis, State.complete, Axis.resetKeeping, Axis.reset], rfl⟩
  all_goals exact done (t := _) (.of_frame rfl rfl (fun _ => rfl) rfl)

/-! ## Every event -/

theorem Engine.not_appending_of_eq_false {e : Engine} (h : e.appending = false) (p : AppendProgress) :
    e.phase ≠ .appending p := fun hp => by
  rw [Engine.appending, hp] at h
  cases h

/-- A host write reaches no append in progress: the staging list is locked (R33). -/
theorem Window.write_sameBatch (l : Location) (d : Halfword) (s : State) :
    s.engine.SameBatch (Window.write l d s).engine := by
  have unlocked : ∀ {e : Engine}, ¬ s.engine.appending = true → e.phase = s.engine.phase → s.engine.SameBatch e :=
    fun h he => .of_not_appending fun p hp =>
      Engine.not_appending_of_eq_false (Bool.eq_false_iff.mpr h) p (he.symm.trans hp)
  cases l
  case cmd =>
    simp only [Window.write]
    obtain ⟨_, e⟩ | ⟨_, c, _, _, e⟩ | ⟨_, code, detail, aux, _, e⟩ := s.commandWrite_cases d <;> rw [e]
    · exact .of_eq rfl
    · exact .of_not_appending nofun
    · exact .of_not_appending nofun
  case stageSel =>
    simp only [Window.write, State.writeStageSel]
    split
    · exact .of_eq rfl
    · exact unlocked (fun h => ‹¬ (_ ∨ _)› (.inl h)) rfl
  case staged k =>
    simp only [Window.write, State.writeStaged]
    split
    · exact .of_eq rfl
    · exact unlocked ‹_› rfl
  case axisStaging k =>
    simp only [Window.write, State.writeAxisStaging]
    split
    · exact .of_eq rfl
    · exact fun p hp => ⟨hp, rfl, rfl⟩
  case viewPointer =>
    simp only [Window.write, State.writeViewPointer]
    split <;> exact .of_eq rfl
  case jctrl =>
    obtain ⟨a, e⟩ | e := s.writeControl_cases d <;> simp only [Window.write, e] <;> exact .of_eq rfl
  case arg k => exact fun p hp => ⟨hp, rfl, rfl⟩
  all_goals exact .of_eq rfl

theorem Window.slotsKept_write (l : Location) (d : Halfword) (s : State) : s.SlotsKept (Window.write l d s) := by
  have hb := Window.write_sameBatch l d s
  rw [Window.write_frame] at hb ⊢
  exact .of_same rfl (fun _ => rfl) (fun _ => rfl) hb

theorem Window.slotsKept_read (l : Location) (s : State) : s.SlotsKept (Window.read l s) := by
  rw [Window.read_frame]
  exact .of_frame rfl rfl (fun _ => rfl) rfl

/-- A predicate that the moves of slots and the resets keep is kept by every event. -/
theorem Kept.of_slots {P : State → Prop} (move : ∀ s t, P s → s.SlotsMove t → P t) (blank : ∀ t, t.Blank → P t) :
    Kept P := by
  have kept : ∀ {s t}, P s → s.SlotsKept t → P t := fun h hk => move _ _ h (.kept hk)
  have k := fun s => slotsKept_keptByEvents s
  have self := State.SlotsKept.refl
  exact {
    evaluation := fun e s h => kept h ((k s).evaluation e s (self s))
    zChange := fun e s h => kept h ((k s).zChange e s (self s))
    levelChange := fun n s h => kept h ((k s).levelChange n s (self s))
    syncChange := fun s h => kept h ((k s).syncChange s (self s))
    holdoff := fun n s h hr => kept h ((k s).holdoff n s (self s) hr)
    width := fun l s h hr => kept h ((k s).width l s (self s) hr)
    gap := fun l s h hr => kept h ((k s).gap l s (self s) hr)
    latch := fun s h hr => kept h ((k s).latch s (self s) hr)
    count := fun s h => kept h ((k s).count s (self s))
    advance := fun s h => kept h ((k s).advance s (self s))
    sample := fun f s h => kept h ((k s).sample f s (self s))
    pinReset := fun q => blank _ ⟨rfl, fun n => by simp [State.reset, State.schedule],
      fun n => by simp [State.reset, State.axis, Axis.reset], rfl⟩
    release := fun s h => kept h (.of_frame rfl rfl (fun _ => rfl) rfl)
    comparison := fun n s h => kept h (s.slotsKept_compareDeadline n)
    appendStep := fun s p slot rest h hp hl hf => move _ _ h (.appended hp hl hf)
    appendCompletion := fun s p detail aux h _ _ =>
      kept h (.of_same rfl (fun _ => rfl) (fun _ => rfl) (.of_not_appending nofun))
    flushStep := fun s total h _ => kept h (s.slotsKept_returnHead _)
    flushCompletion := fun s total h _ _ => kept h (.of_same rfl (fun m => by
      rw [State.completeFlush, State.complete_schedule, State.offer_schedule, State.setSchedule_schedule]
      split
      · subst m; rfl
      · rfl) (fun _ => rfl) (.of_not_appending nofun))
    owner := fun c u s h hw => (c.owner_slots u hw).elim (move _ _ h) (blank _)
    issue := fun d s h _ => kept h (.of_same rfl (fun _ => rfl) (fun _ => rfl) (.of_not_appending nofun))
    write := fun l d s h => kept h (Window.slotsKept_write l d s)
    read := fun l s h => kept h (Window.slotsKept_read l s) }

/-! ## Every slot in one place, every schedule within its quota -/

section
variable {s t : State}

theorem State.appendBacked_of_not_appending (h : ∀ p, t.engine.phase ≠ .appending p) : t.AppendBacked :=
  fun p hp => absurd hp (h p)

theorem State.SlotsKept.appendBacked (h : s.SlotsKept t) (hs : s.AppendBacked) : t.AppendBacked := fun p hp => by
  obtain ⟨hp, hu, _⟩ := h.batch p hp
  obtain ⟨hf, hq, h8⟩ := hs p hp
  rw [hu, h.config]
  exact ⟨hf.trans h.free, (Nat.add_le_add_right (h.list _).length_le _).trans hq, h8⟩

/-- After an append step the batch that is left is one entry and one slot less. -/
theorem State.AppendBacked.appendEntry {p : AppendProgress} {k : Slot} {rest : List Slot} (hs : s.AppendBacked)
    (hp : s.engine.phase = .appending p) (hl : p.left ≠ 0) (hf : s.pool.free = k :: rest) :
    (s.appendEntry p k rest).AppendBacked := by
  intro q hq
  obtain rfl : { next := p.next + 1, left := p.left - 1, first := some (p.first.getD k) } = q :=
    CommandPhase.appending.inj hq
  obtain ⟨hfree, hquota, h8⟩ := hs p hp
  rw [hf, List.length_cons] at hfree
  refine ⟨Nat.sub_le_of_le_add hfree, ?_, by simp only; omega⟩
  have : ((s.appendEntry p k rest).schedule (axisOf s.engine.unit)).list =
      (s.schedule (axisOf s.engine.unit)).list ++ [k] := by
    simp [State.appendEntry]
  rw [show (s.appendEntry p k rest).engine.unit = s.engine.unit from rfl, this, List.length_append, List.length_singleton]
  show _ + 1 + (p.left - 1) ≤ (s.axis (axisOf s.engine.unit)).config.quota.toNat
  omega

theorem State.accepted_appendBacked (hfits : s.AppendFits)
    (hq : (s.schedule (axisOf s.engine.unit)).list.length + (s.arg 1).toNat ≤
      (s.axis (axisOf s.engine.unit)).config.quota.toNat)
    (hf : (s.arg 1).toNat ≤ s.pool.free.length) :
    (s.setEngine { s.engine with
      phase := .appending { next := (s.arg 0).toNat, left := (s.arg 1).toNat, first := none } }).AppendBacked := by
  intro q hq'
  obtain rfl := CommandPhase.appending.inj hq'
  exact ⟨hf, hq, hfits.last_le⟩

/-- An append step moves the head of the free list to the tail of its schedule. -/
theorem State.appendEntry_slots {p : AppendProgress} {k : Slot} {rest : List Slot} (hf : s.pool.free = k :: rest) :
    (s.appendEntry p k rest).allSlots.Perm s.allSlots := by
  refine List.perm_iff_count.mpr fun j => ?_
  have hsum := sum_count_set (fun m => (s.schedule m).list) (fun m => ((s.appendEntry p k rest).schedule m).list)
    (axisOf s.engine.unit) j (fun m hm => by simp [State.appendEntry, Ne.symm hm])
  have happ : ((s.appendEntry p k rest).schedule (axisOf s.engine.unit)).list =
      (s.schedule (axisOf s.engine.unit)).list ++ [k] := by simp [State.appendEntry]
  have hfree : (s.appendEntry p k rest).pool.free = rest := rfl
  rw [happ, List.count_append, List.count_singleton] at hsum
  rw [State.count_allSlots, State.count_allSlots, hfree, hf, List.count_cons]
  omega

end

theorem State.Blank.allSlots_eq {t : State} (h : t.Blank) : t.allSlots = List.finRange 128 := by
  simp [State.allSlots, t.schedules_toList, h.schedule, h.pool, Schedule.reset, Pool.reset]

theorem State.Blank.not_appending {t : State} (h : t.Blank) (p : AppendProgress) : t.engine.phase ≠ .appending p := by
  rw [h.idle]
  nofun

theorem State.Blank.poolSound {t : State} (h : t.Blank) : t.PoolSound := by
  refine ⟨?_, ?_, State.appendBacked_of_not_appending h.not_appending⟩
  · rw [h.allSlots_eq]; exact List.nodup_finRange 128
  · rw [h.allSlots_eq]; exact List.length_finRange

/-- Every move of slots keeps each of them in one place (R35, R40). -/
theorem State.SlotsMove.poolSound {s t : State} (h : s.PoolSound) (hm : s.SlotsMove t) : t.PoolSound := by
  obtain ⟨hnodup, hlength, hbacked⟩ := h
  have of_perm : ∀ {t : State}, t.allSlots.Perm s.allSlots → t.AppendBacked → t.PoolSound := fun hp hb =>
    ⟨hp.nodup_iff.mpr hnodup, hp.length_eq.trans hlength, hb⟩
  cases hm with
  | kept hk => exact of_perm hk.slots (hk.appendBacked hbacked)
  | appended hp hl hf => exact of_perm (State.appendEntry_slots hf) (hbacked.appendEntry hp hl hf)
  | accepted hfits hb hq hf => exact ⟨hnodup, hlength, State.accepted_appendBacked hfits hq hf⟩
  | configured n x hk hempty hidle =>
    exact of_perm (t := State.setAxis _ _ _) hk.slots (State.appendBacked_of_not_appending fun p hp => by
      rw [State.setAxis_engine, hidle] at hp
      cases hp)

theorem poolSound_kept : Kept State.PoolSound := .of_slots (fun _ _ h hm => hm.poolSound h) (fun _ h => h.poolSound)

/-- Every move of slots keeps each schedule within its quota (R39). -/
theorem State.SlotsMove.quotasKept {s t : State} (h : s.QuotasKept) (hm : s.SlotsMove t) : t.QuotasKept := by
  obtain ⟨hbacked, hquotas⟩ := h
  have of_kept : ∀ {t : State}, s.SlotsKept t → ∀ n, (t.schedule n).list.length ≤ (t.axis n).config.quota.toNat ∧
      1 ≤ (t.axis n).config.quota.toNat ∧ (t.axis n).config.quota.toNat ≤ 128 := fun hk n => by
    obtain ⟨hle, hrange⟩ := hquotas n
    rw [hk.config n]
    exact ⟨(hk.list n).length_le.trans hle, hrange⟩
  cases hm with
  | kept hk => exact ⟨hk.appendBacked hbacked, of_kept hk⟩
  | @appended p k rest hp hl hf =>
    refine ⟨hbacked.appendEntry hp hl hf, fun n => ⟨?_, (hquotas n).2⟩⟩
    obtain ⟨_, hroom, _⟩ := hbacked p hp
    have hn := (hquotas n).1
    simp only [State.appendEntry, State.setEngine_schedule, State.setEngine_axis, State.setSchedule_schedule,
      State.setSchedule_axis, State.setPool_axis, State.setPool_schedule]
    split
    · subst n
      rw [List.length_append, List.length_singleton]
      omega
    · exact hn
  | accepted hfits hb hq hf => exact ⟨State.accepted_appendBacked hfits hq hf, hquotas⟩
  | configured n x hk hempty hidle hc =>
    refine ⟨State.appendBacked_of_not_appending fun p hp => ?_, fun m => ?_⟩
    · rw [State.setAxis_engine, hidle] at hp
      cases hp
    · rw [State.setAxis_axis, State.setAxis_schedule]
      split
      · subst m
        rw [hempty]
        exact ⟨Nat.zero_le _, hc.one_le, hc.le⟩
      · exact of_kept hk m

theorem State.Blank.quotasKept {t : State} (h : t.Blank) : t.QuotasKept :=
  ⟨State.appendBacked_of_not_appending h.not_appending, fun n => by
    rw [h.schedule, h.config]
    exact ⟨Nat.zero_le _, by decide, by decide⟩⟩

theorem quotasKept_kept : Kept State.QuotasKept := .of_slots (fun _ _ h hm => hm.quotasKept h) (fun _ h => h.quotasKept)

/-- Settles O57: each event moves slots in one of the ways that keep both conditions. -/
theorem stepsKeepEverySlotInOnePlace : Obligations.StepsKeepEverySlotInOnePlace :=
  ⟨fun _ _ hs h => poolSound_kept.step (fun _ _ h => h) h hs, fun _ _ hs h => quotasKept_kept.step (fun _ _ h => h) h hs⟩

/-! ## Every scheduled entry valid -/

/-- An entry copied from a staged entry that passes R31 is valid for its axis. -/
theorem StagedEntry.toEntry_validFor {c : AxisConfig} {e : StagedEntry} (h : e.firstBad c = none) :
    e.toEntry.ValidFor c := by
  have pass := (e.firstBad_spec c).2.mp h
  have h3 := pass 3
  have h5 := pass 5
  have h6 := pass 6
  have h7 := pass 7
  simp only [StagedEntry.Fails, not_and_or, not_or, Nat.not_le, Nat.not_lt] at h3 h5 h6 h7
  have hstride : e.stride = 0 → e.stride.toInt = 0 := fun hz => by rw [hz]; rfl
  have hop : e.op.toNat = 0 → e.toEntry.op = .none := fun hz => by
    have : e.op = 0 := BitVec.eq_of_toNat_eq hz
    simp [StagedEntry.toEntry, this, OutputOp.ofCode]
  refine ⟨Nat.one_le_iff_ne_zero.mpr h5, le_refl _, fun hne => ?_, fun hr => (inRevolution_iff _ _).mpr ?_, fun h1 => ?_⟩
  · exact h3.resolve_left fun hz => hne (hop (not_not.mp hz))
  · have := h6.resolve_left (not_not.mpr hr)
    simp only [StagedEntry.toEntry]
    omega
  · obtain ⟨hs, hm⟩ := h7.resolve_left (by simp only [StagedEntry.toEntry] at h1; omega)
    exact ⟨fun hz => hs (hstride hz), fun hr => hm.resolve_left (not_not.mpr hr)⟩

theorem State.SlotsKept.batchValid {s t : State} (h : s.SlotsKept t) (hs : s.BatchValid) : t.BatchValid := by
  intro p hp
  obtain ⟨hp, hu, hg⟩ := h.batch p hp
  rw [hu, hg, h.config]
  exact hs p hp

/-- Every move of slots keeps every scheduled entry, and every entry that is still to be appended, valid (R29, R31). -/
theorem State.SlotsMove.entriesValid {s t : State} (h : s.EntriesValid) (hm : s.SlotsMove t) : t.EntriesValid := by
  have pool' := hm.poolSound h.1
  obtain ⟨pool, batch, sound, entries⟩ := h
  have of_kept : ∀ {t : State}, s.SlotsKept t → ∀ n, ∀ k ∈ (t.schedule n).list, (t.entry k).ValidFor (t.axis n).config :=
    fun hk n k hmem => by
      rw [hk.config n]
      exact hk.entry pool.1 sound n k hmem (entries n k ((hk.list n).subset hmem))
  refine ⟨pool', ?_⟩
  cases hm with
  | kept hk => exact ⟨hk.batchValid batch, fun n => hk.config n ▸ sound n, of_kept hk⟩
  | @appended p k rest hp hl hf =>
    obtain ⟨_, _, h8⟩ := pool.2.2 p hp
    refine ⟨fun q hq i hi hi' => ?_, sound, fun n j hj => ?_⟩
    · obtain rfl : { next := p.next + 1, left := p.left - 1, first := some (p.first.getD k) } = q :=
        CommandPhase.appending.inj hq
      simp only at hi hi'
      exact batch p hp i (by omega) (by omega)
    · have hk : k ∈ s.pool.free := by rw [hf]; exact List.mem_cons_self
      have entry : (s.appendEntry p k rest).entry j =
          if k = j then (s.engine.staged[Fin.ofNat 8 p.next]).toEntry else s.entry j :=
        State.setEntry_entry s k j _
      have hvalid := StagedEntry.toEntry_validFor
        (batch p hp (Fin.ofNat 8 p.next) (by simp; omega) (by simp; omega))
      rw [entry]
      simp only [State.appendEntry, State.setEngine_schedule, State.setEngine_axis, State.setSchedule_schedule,
        State.setSchedule_axis, State.setPool_axis, State.setPool_schedule] at hj ⊢
      split at hj
      · subst n
        obtain hj | hj := List.mem_append.mp hj
        · rw [if_neg fun e => State.not_mem_list_of_mem_free pool.1 hk _ (e ▸ hj)]
          exact entries _ j hj
        · rw [if_pos (List.mem_singleton.mp hj).symm]
          exact hvalid
      · rw [if_neg fun e => State.not_mem_list_of_mem_free pool.1 hk _ (e ▸ hj)]
        exact entries n j hj
  | accepted hfits hb hq hf =>
    refine ⟨fun q hq' i hi hi' => ?_, sound, entries⟩
    obtain rfl := CommandPhase.appending.inj hq'
    exact (Engine.badEntry_eq_none _ _ _ _ hfits.last_le).mp hb i hi hi'
  | configured n x hk hempty hidle hc =>
    refine ⟨fun q hq => ?_, fun m => ?_, fun m j hj => ?_⟩
    · rw [State.setAxis_engine, hidle] at hq
      cases hq
    · rw [State.setAxis_axis]
      split
      · exact hc.sound
      · exact hk.config m ▸ sound m
    · rw [State.setAxis_schedule] at hj
      rw [State.setAxis_axis, State.setAxis_entry]
      split
      · subst m
        rw [hempty] at hj
        cases hj
      · exact of_kept hk m j hj

theorem State.Blank.entriesValid {t : State} (h : t.Blank) : t.EntriesValid := by
  refine ⟨h.poolSound, fun p hp => absurd hp (h.not_appending p), fun n => ?_, fun n k hk => ?_⟩
  · rw [h.config]
    exact AxisConfig.reset_admitted.sound
  · rw [h.schedule] at hk
    cases hk

theorem entriesValid_kept : Kept State.EntriesValid :=
  .of_slots (fun _ _ h hm => hm.entriesValid h) (fun _ h => h.entriesValid)

/-- Settles O58: each event moves slots in one of the ways that keep every entry valid. -/
theorem stepsKeepEveryEntryValid : Obligations.StepsKeepEveryEntryValid := fun _ _ hs h =>
  entriesValid_kept.step (fun _ _ h => h) h hs

end Sys2Proof.Machine
end

section
/-! What the owner of a command and a host write can reach, each said once: the entry records, the lines, the triggers, the
timebase and the journal (R165, R185). -/
namespace Sys2Proof.Machine

section
variable (s : State)

theorem State.returnHead_entries (n : AxisNo) : (s.returnHead n).pool.entries = s.pool.entries := by
  obtain ⟨_, e⟩ | ⟨k, rest, _, e⟩ := s.returnHead_cases n <;> (rw [e]; try rfl)

theorem State.departHead_entries (n : AxisNo) : (s.departHead n).pool.entries = s.pool.entries := s.returnHead_entries n


end

/-! ## The records that the blocks offer -/

theorem Content.shaped_timeset (v w : Time) : ({ cause := .timeset, stamp := v, value48 := some w } : Content).Shaped :=
  ⟨nofun, rfl⟩

theorem Content.shaped_snapshot (v : Time) (g : Gang) :
    ({ cause := .snapshot, stamp := v, gang := some g } : Content).Shaped := ⟨nofun, rfl⟩

/-! ## Owners -/

/-- What an owner's event can reach in these parts of the state: no record of an entry and no trigger, a line by a request,
the time, the load value and the SYNC state, and the journal by a record. -/
structure State.OwnerReach (s t : State) : Prop where
  entries : t.pool.entries = s.pool.entries
  triggers : t.triggers = s.triggers
  lines : t.lines = s.lines ∨ ∃ l q, t.lines = (s.request l q).lines
  timebase : ∃ time load state, t.timebase = { s.timebase with time := time, loadValue := load, syncState := state }
  journal : t.journal = s.journal ∨ ∃ o : Offer, o.content.Shaped ∧ t.journal = s.journal.offer o

section
variable {s t : State}

/-- An event that reaches none of these parts. -/
theorem State.OwnerReach.of_eq (he : t.pool.entries = s.pool.entries) (ht : t.triggers = s.triggers)
    (hl : t.lines = s.lines) (hb : t.timebase = s.timebase) (hj : t.journal = s.journal) : s.OwnerReach t :=
  ⟨he, ht, .inl hl, ⟨_, _, _, hb⟩, .inl hj⟩

theorem State.OwnerReach.same (s : State) : s.OwnerReach s := .of_eq rfl rfl rfl rfl rfl

end

/-- Every owner's event but that of CHIP_RESET. -/
theorem Command.owner_reach (k : Command) (u : UnitNo) (s : State) (hk : k ≠ .chipReset) :
    s.OwnerReach (k.owner u s) := by
  have sends : ∀ q, s.OwnerReach (s.outCommand q (lineOf u)) := fun q =>
    { State.OwnerReach.same s with lines := .inr ⟨_, q, rfl⟩ }
  cases k <;> simp only [Command.owner]
  case schedAppend =>
    obtain ⟨_, _, _, e⟩ | ⟨_, e⟩ := s.acceptAppend_cases (axisOf u) <;> rw [e] <;> exact .of_eq rfl rfl rfl rfl rfl
  case schedSkip =>
    obtain ⟨_, e⟩ | ⟨_, _, _, e⟩ := s.skipHead_cases (axisOf u) <;> rw [e]
    · exact .of_eq rfl rfl rfl rfl rfl
    · exact .of_eq (s.departHead_entries _) (s.departHead_triggers _) (s.departHead_lines _) (s.departHead_timebase _)
        (s.departHead_journal _)
  case schedFlush =>
    obtain ⟨_, e⟩ | ⟨_, e⟩ := s.acceptFlush_cases (axisOf u) <;> rw [e] <;> exact .of_eq rfl rfl rfl rfl rfl
  case axisConfig => rw [State.configureAxis_frame]; exact .of_eq rfl rfl rfl rfl rfl
  case axisStart =>
    obtain ⟨_, e⟩ | ⟨_, e⟩ := s.startAxis_cases (axisOf u) <;> rw [e] <;> exact .of_eq rfl rfl rfl rfl rfl
  case axisStop =>
    obtain ⟨_, e⟩ | ⟨_, e⟩ | ⟨_, e⟩ := s.stopAxis_cases (axisOf u) <;> rw [e] <;> exact .of_eq rfl rfl rfl rfl rfl
  case axisResume =>
    obtain ⟨_, e⟩ | ⟨_, e⟩ := s.resumeAxis_cases (axisOf u) <;> rw [e] <;> exact .of_eq rfl rfl rfl rfl rfl
  case axisSetpos => rw [State.setPosition_frame]; exact .of_eq rfl rfl rfl rfl rfl
  case homeArm =>
    obtain ⟨_, _, e⟩ | ⟨_, e⟩ := s.armHoming_cases (axisOf u) <;> rw [e] <;> exact .of_eq rfl rfl rfl rfl rfl
  case homeCancel =>
    obtain ⟨_, _, e⟩ | ⟨_, _, e⟩ := s.cancelHoming_cases (axisOf u) <;> rw [e] <;> exact .of_eq rfl rfl rfl rfl rfl
  case outSet => exact sends .set
  case outClear => exact sends .clear
  case outToggle => exact sends .toggle
  case outPulse => exact sends .pulse
  case timeSet =>
    exact ⟨rfl, rfl, .inl rfl, ⟨_, _, _, rfl⟩, .inr ⟨_, Content.shaped_timeset s.timeArg s.now, rfl⟩⟩
  case syncArm => exact ⟨rfl, rfl, .inl rfl, ⟨_, _, _, rfl⟩, .inl rfl⟩
  case syncDisarm =>
    obtain ⟨_, e⟩ | e := s.disarmSync_cases <;> rw [e] <;> exact ⟨rfl, rfl, .inl rfl, ⟨_, _, _, rfl⟩, .inl rfl⟩
  case snapshot => exact { State.OwnerReach.same s with journal := .inr ⟨_, Content.shaped_snapshot s.now s.gang, rfl⟩ }
  case chipReset => exact absurd rfl hk
  all_goals exact .of_eq rfl rfl rfl rfl rfl

/-! ## Host writes -/

/-- What a host write of the halfword `d` can reach in these parts of the state. -/
structure Window.WriteReach (d : Halfword) (s t : State) : Prop where
  lines : t.lines = s.lines ∨ (∃ l : LineNo, t.lines = s.lines.set l ((s.line l).writeConfig d)) ∨
    ∃ l : LineNo, t.lines = s.lines.set l ((s.line l).writeWidth d)
  triggers : t.triggers = s.triggers ∨ (∃ n : TriggerNo, t.triggers = s.triggers.set n ((s.trigger n).writeConfig d)) ∨
    ∃ n : TriggerNo, t.triggers = s.triggers.set n { s.trigger n with holdoff := d }
  timebase : t.timebase = s.timebase.writeTrimMode d ∨
    ∃ staged mode edge, t.timebase = { s.timebase with stagedInterval := staged, syncMode := mode, syncEdge := edge }
  journal : t.journal = s.journal ∨ (∃ a, t.journal = s.journal.perform s.now a) ∨ t.journal = s.journal.configure d ∨
    t.journal = s.journal.writeHold d ∨ ∃ p, p ≤ Config.viewCapacity ∧ t.journal = { s.journal with viewPointer := p }

theorem Window.WriteReach.same (d : Halfword) (s : State) : Window.WriteReach d s s :=
  ⟨.inl rfl, .inl rfl, .inr ⟨_, _, _, rfl⟩, .inl rfl⟩

theorem Window.write_reach (l : Location) (d : Halfword) (s : State) : Window.WriteReach d s (Window.write l d s) := by
  have same := Window.WriteReach.same d s
  cases l
  case cmd =>
    simp only [Window.write]
    rw [State.commandWrite_frame]
    exact ⟨.inl rfl, .inl rfl, .inr ⟨_, _, _, rfl⟩, .inl rfl⟩
  case stageSel => simp only [Window.write, State.writeStageSel]; split <;> exact ⟨same.1, same.2, same.3, same.4⟩
  case staged k => simp only [Window.write, State.writeStaged]; split <;> exact ⟨same.1, same.2, same.3, same.4⟩
  case axisStaging k => simp only [Window.write, State.writeAxisStaging]; split <;> exact ⟨same.1, same.2, same.3, same.4⟩
  case lineConfig i => exact { same with lines := .inr (.inl ⟨i, rfl⟩) }
  case lineWidth i => exact { same with lines := .inr (.inr ⟨i, rfl⟩) }
  case triggerConfig n => exact { same with triggers := .inr (.inl ⟨n, rfl⟩) }
  case holdoff n => exact { same with triggers := .inr (.inr ⟨n, rfl⟩) }
  case trimMode => exact { same with timebase := .inl rfl }
  case syncConfig => exact { same with timebase := .inr ⟨_, _, _, rfl⟩ }
  case interval high => exact { same with timebase := .inr ⟨_, _, _, rfl⟩ }
  case jcfg => exact { same with journal := .inr (.inr (.inl rfl)) }
  case jhold => exact { same with journal := .inr (.inr (.inr (.inl rfl))) }
  case jctrl =>
    obtain ⟨a, e⟩ | e := s.writeControl_cases d <;> simp only [Window.write, e]
    · exact ⟨same.1, same.2, same.3, .inr (.inl ⟨a, rfl⟩)⟩
    · exact same
  case viewPointer =>
    simp only [Window.write, State.writeViewPointer]
    split
    · exact ⟨same.1, same.2, same.3, .inr (.inr (.inr (.inr ⟨_, ‹_›, rfl⟩)))⟩
    · exact same
  all_goals exact ⟨same.1, same.2, same.3, same.4⟩

end Sys2Proof.Machine
end

section
/-! Fires over the whole table: an entry record changes at a fire, at an append step and at the resets of the part, and a fire
is a counting step onto the target of a live schedule's head (R51, R52). -/
namespace Sys2Proof.Machine

/-! ## What reaches the entry records -/

section
variable (s : State)

theorem State.compareDeadline_entries (n : AxisNo) : (s.compareDeadline n).pool.entries = s.pool.entries := by
  obtain e | ⟨k, rest, _, _, _, e⟩ := s.compareDeadline_cases n <;> rw [e]
  · rfl
  · exact State.departHead_entries _ n

/-- A fire writes the record of its own slot alone (R57, R58). -/
theorem State.fire_entry_of_ne {n : AxisNo} {k j : Slot} (h : k ≠ j) : (s.fire n k).entry j = s.entry j := by
  have out : ∀ e, ((s.fireOutput n k).setEntry k e).entry j = s.entry j := fun e => by
    rw [State.setEntry_entry, if_neg h, s.fireOutput_eq n k]
    rfl
  by_cases hr : (s.entry k).remaining - 1 = 0
  · rw [State.fire_of_last hr, State.entry, State.departHead_entries]
    exact out _
  · rw [State.fire_of_more hr]
    exact out _

end

/-- What a command that takes its own event alone does to the entry records: nothing, a reset of the part, its decoder's
event, or an append step. -/
theorem Effect.entry_cases {c : Instr} {s t : State} (h : Effect c s t) (own : s.TakesItsOwnEvent c) :
    t.pool.entries = s.pool.entries ∨ c = .pinReset ∨ (∃ u, c = .chipReset u) ∨
    (∃ e, c = .decoderEvaluation e ∧ t = s.takeEvaluation e) ∨
    ∃ p k rest, s.pool.free = k :: rest ∧ t = s.appendEntry p k rest := by
  have falls : ∀ {ready event} (r : State), FallsWithTick c ready event → (event r).pool = r.pool := by
    intro ready event r hf
    cases hf with
    | sample f => rw [r.takeSample_frame f]
    | _ => rfl
  have owner : ∀ k u e, c = Command.row k u → (k.owner u (s.setEngine e)).pool.entries = s.pool.entries ∨
      ∃ u, c = .chipReset u := by
    rintro k u e rfl
    by_cases hk : k = .chipReset
    · subst hk; exact .inr ⟨u, rfl⟩
    · exact .inl (k.owner_reach u (s.setEngine e) hk).entries
  cases h with
  | unchanged => exact .inl rfl
  | pinReset => exact .inr (.inl rfl)
  | release => exact .inl rfl
  | evaluation e => exact .inr (.inr (.inr (.inl ⟨e, rfl, rfl⟩)))
  | zChange e => exact .inl (by rw [s.takeZChange_frame e])
  | levelChange n => exact .inl (by rw [s.takeLevelChange_frame n])
  | syncChange => exact .inl (by rw [s.takeSyncChange_frame])
  | tick _ _ hc =>
    rw [own.tick hc]
    split <;> exact .inl rfl
  | afterTick _ _ ready event hf => exact .inl (by rw [falls s hf])
  | beforeTick _ _ ready event hf hn hc =>
    rw [own.countTick hf hn hc, falls s.count hf]
    exact .inl rfl
  | comparison n => exact .inl (s.compareDeadline_entries n)
  | appendStep _ p k rest _ _ hf => exact .inr (.inr (.inr (.inr ⟨p, k, rest, hf, rfl⟩)))
  | appendCompletion => exact .inl rfl
  | flushStep => exact .inl (s.returnHead_entries _)
  | flushCompletion => exact .inl rfl
  | taken k u => exact (owner k u s.engine rfl).elim .inl fun h => .inr (.inr (.inl h))
  | issuedAndTaken k u => exact (owner k u _ rfl).elim .inl fun h => .inr (.inr (.inl h))
  | rowWritten k u => exact .inl (by rw [State.commandWrite_frame])
  | write _ l d => exact .inl (by rw [Window.write_frame])
  | read _ l => exact .inl (by rw [Window.read_frame])

/-! ## The live condition -/

/-- The live condition of the model is that of the statements (R51). -/
theorem State.liveCondition_iff {s : State} {n : AxisNo} {k : Slot} {rest : List Slot}
    (hl : (s.schedule n).list = k :: rest) : s.liveCondition n = true ↔ s.Live n k := by
  have active : (s.schedule n).state = .active ↔ (s.schedule n).runMode = .run ∧ (s.schedule n).draining = false := by
    unfold Schedule.state
    cases (s.schedule n).draining <;> cases (s.schedule n).runMode <;> simp [hl]
  have gate : s.gateOpen (s.axis n).config.gate = true ↔
      match (s.axis n).config.gate with
      | .none => True
      | .onLevel t high => (s.trigger t).level = high := by
    unfold State.gateOpen
    cases (s.axis n).config.gate <;> simp
  simp only [State.liveCondition, State.Live, Bool.and_eq_true, decide_eq_true_eq, active, gate, hl, List.head?_cons,
    true_and]
  tauto

/-- A schedule is as live as before while it, its axis's state and configuration, and the triggers stand. -/
theorem State.Live.of_eq {s t : State} {n : AxisNo} {k : Slot} (h : t.Live n k) (hs : t.schedule n = s.schedule n)
    (hx : (t.axis n).state = (s.axis n).state) (hc : (t.axis n).config = (s.axis n).config)
    (ht : t.triggers = s.triggers) : s.Live n k := by
  unfold State.Live at h ⊢
  rw [hs, hx, hc] at h
  unfold State.trigger at h ⊢
  rw [ht] at h
  exact h

/-! ## A step and its arrival -/

/-- The state that a counting step hands to its schedule: the axis moved, the WRAP record offered, and the host action
taken (R8, R10, R149). -/
def State.stepped (n : AxisNo) (h : Option HostAction) (d : Direction) (s : State) : State :=
  let x := s.axis n
  let y := x.move d
  ((s.setAxis n y).offerIf (x.wraps d && x.config.recordWraps) (.counter n)
    { cause := .wrap, axis := some n, stamp := x.sampledAt, position := some y.position,
      aux := some (d.code.setWidth 16) }).perform h

section
variable (s : State) (n : AxisNo) (h : Option HostAction) (d : Direction)

theorem State.countStep_eq : s.countStep n h d = (s.stepped n h d).arrival n := rfl

theorem State.stepped_frame : s.stepped n h d =
    { s with axes := s.axes.set n ((s.axis n).move d), journal := (s.stepped n h d).journal
             interrupts := (s.stepped n h d).interrupts, bus := (s.stepped n h d).bus } := by
  simp only [State.stepped]
  rw [State.perform, State.offerIf_frame, State.setAxis]

theorem State.stepped_axis_self : (s.stepped n h d).axis n = (s.axis n).move d := by
  rw [State.stepped_frame]
  exact s.setAxis_axis_self n _

end

/-- An entry record that an evaluation changes is that of a live head, and the evaluation steps onto its target. -/
theorem State.takeEvaluation_entry {s : State} {e : AxisEvent} {k : Slot} (hne : (s.takeEvaluation e).entry k ≠ s.entry k) :
    ∃ d rest, (s.schedule e.axis).list = k :: rest ∧ (s.axis e.axis).toEvaluate = true ∧ (s.axis e.axis).StepsTo d ∧
      s.Live e.axis k ∧ ((s.takeEvaluation e).axis e.axis).position = (s.entry k).target ∧
      (s.entry k).qualifier.accepts ((s.takeEvaluation e).axis e.axis).direction = true := by
  obtain ⟨_, h⟩ | ⟨ht, h⟩ := s.takeEvaluation_cases e
  · rw [h] at hne; exact absurd rfl hne
  obtain ⟨d, hd, h'⟩ | ⟨_, h'⟩ | ⟨_, h'⟩ := s.evaluate_cases e
  · rw [h, h', State.countStep_eq] at hne ⊢
    have frame := (s.takePair e.axis).stepped_frame e.axis e.between d
    have axis := (s.takePair e.axis).stepped_axis_self e.axis e.between d
    have pair : (s.takePair e.axis).axis e.axis = { s.axis e.axis with phase := (s.axis e.axis).filtered } :=
      s.setAxis_axis_self e.axis _
    have state : ((s.takePair e.axis).stepped e.axis e.between d |>.axis e.axis).state = (s.axis e.axis).state := by
      rw [axis, (Axis.move_standing _ d).1, pair]
    have config : ((s.takePair e.axis).stepped e.axis e.between d |>.axis e.axis).config = (s.axis e.axis).config := by
      rw [axis, Axis.move_config, pair]
    generalize (s.takePair e.axis).stepped e.axis e.between d = u at hne frame state config ⊢
    have entry : ∀ j, u.entry j = s.entry j := fun j => by rw [frame]; rfl
    have schedule : u.schedule e.axis = s.schedule e.axis := by rw [frame]; rfl
    have triggers : u.triggers = s.triggers := by rw [frame]; rfl
    obtain ha | ⟨j, rest, hl, hlive, hpos, hdir, ha⟩ := u.arrival_cases e.axis
    · rw [ha] at hne; exact absurd (entry k) hne
    · obtain rfl : j = k := by
        by_contra hjk
        rw [ha, u.fire_entry_of_ne hjk] at hne
        exact hne (entry k)
      have out : ∀ m, (u.arrival e.axis).axis m = u.axis m := fun m => by rw [u.arrival_frame]; rfl
      rw [out, ← entry]
      exact ⟨d, rest, schedule ▸ hl, ht, hd,
        ((State.liveCondition_iff hl).mp hlive).of_eq schedule state config triggers, hpos, hdir⟩
  · rw [h, h', State.phaseError_frame] at hne; exact absurd rfl hne
  · rw [h, h'] at hne; exact absurd rfl hne

/-- Settles O16: of what reaches entry records, an append step takes a free slot, which is no head, and an evaluation that
writes one steps onto its target. -/
theorem headFiresOnlyAtAStepOntoItsTarget : Obligations.HeadFiresOnlyAtAStepOntoItsTarget := by
  intro c n k s t hpool own h hhead hne
  have hk : k ∈ (s.schedule n).list := List.mem_of_mem_head? hhead
  obtain he | hp | hc | ⟨e, rfl, rfl⟩ | ⟨p, j, rest, hf, rfl⟩ := (effect_of_exec h).entry_cases own
  · exact absurd (by rw [State.entry, he]; rfl) hne
  · exact .inl hp
  · exact .inr (.inl hc)
  · have hr : s.inReset = false :=
      running_of_exec_ne h (by rintro (e | e) <;> cases e) (fun e => hne (by rw [e]))
    obtain ⟨d, rest, hl, ht, hd, hlive, hpos, hdir⟩ := State.takeEvaluation_entry hne
    obtain rfl : n = e.axis := State.axis_eq_of_mem_list hpool.1 hk (by rw [hl]; exact List.mem_cons_self)
    obtain ⟨hcount, hpair⟩ := (Axis.toEvaluate_iff _).mp ht
    exact .inr (.inr ⟨⟨e.between, rfl⟩, hlive, hpos, hdir, d, hr, hcount, hpair, hd⟩)
  · have hjk : j ≠ k := by
      rintro rfl
      exact State.not_mem_list_of_mem_free hpool.1 (by rw [hf]; exact List.mem_cons_self) n hk
    exact absurd ((State.setEntry_entry s j k _).trans (if_neg hjk)) hne

end Sys2Proof.Machine
end

section
/-! The axes and the interrupt unit keep the conditions of their chapters under every event (R8, R9, R12, R15, R18, R20, R82,
R175). -/
namespace Sys2Proof.Machine

/-! ## Positions within the range of an axis -/

/-- Below 2 to the power 31 the range of a revolution is that of the number without its sign. -/
theorem inRevolution_iff_toNat {p m : BitVec 32} (hm : m.toNat ≤ 16777216) :
    inRevolution p m = true ↔ p.toNat < m.toNat := by
  rw [inRevolution_iff, BitVec.toInt_eq_toNat_cond]
  have := p.isLt
  split <;> omega

theorem AxisConfig.Sound.modulus {c : AxisConfig} (h : c.Sound) (hr : c.range = .rotary) :
    2 ≤ c.modulus.toNat ∧ c.modulus.toNat ≤ 16777216 := ⟨(h hr).1, (h hr).2.1⟩

theorem AxisConfig.Sound.inRevolution_zero {c : AxisConfig} (h : c.Sound) (hr : c.range = .rotary) :
    inRevolution 0 c.modulus = true := by
  obtain ⟨h2, hm⟩ := h.modulus hr
  rw [inRevolution_iff_toNat hm]
  exact Nat.lt_of_lt_of_le (by decide) h2

/-- The conditions of an axis together (R8, R9, R12, R15). -/
def Axis.Sound (x : Axis) : Prop := x.PositionSound ∧ x.ErrorsSound

section
variable {x y : Axis}

/-- The conditions of an axis are about these fields alone. -/
theorem Axis.Sound.of_eq (h : x.Sound) (hc : y.config = x.config) (hp : y.position = x.position)
    (hr : y.revolution = x.revolution) (hs : y.state = x.state) (he : y.errorSince = x.errorSince) : y.Sound := by
  unfold Axis.Sound Axis.PositionSound Axis.ErrorsSound at h ⊢
  rw [hc, hp, hr, hs, he]
  exact h

theorem Axis.PositionSound.of_eq (h : x.PositionSound) (hc : y.config = x.config) (hp : y.position = x.position)
    (hr : y.revolution = x.revolution) : y.PositionSound := by
  unfold Axis.PositionSound at h ⊢
  rw [hc, hp, hr]
  exact h

/-- An axis whose count since resume is 0 has not reached its threshold. -/
theorem Axis.errorsSound_of_zero (h : x.errorSince = 0) : x.ErrorsSound := by
  refine ⟨fun _ => h, fun _ hne => ?_⟩
  rw [h]
  bv_omega

theorem Axis.move_frame (d : Direction) (x : Axis) : x.move d =
    { x with position := (x.move d).position, revolution := (x.move d).revolution, direction := d } := by
  unfold Axis.move
  split
  · rfl
  · rfl
  · split <;> rfl
  · split <;> rfl

/-- A step stays within the range of its axis (R8, R9). -/
theorem Axis.PositionSound.move (h : x.PositionSound) (d : Direction) : (x.move d).PositionSound := by
  obtain ⟨hc, hp, hr⟩ := h
  refine ⟨(x.move_config d) ▸ hc, fun hrot => ?_, fun hlin => ?_⟩
  · rw [x.move_config] at hrot ⊢
    obtain ⟨h2, hm⟩ := hc.modulus hrot
    have hpos := (inRevolution_iff_toNat hm).mp (hp hrot)
    rw [inRevolution_iff_toNat hm]
    unfold Axis.move
    cases d <;> simp only [hrot] <;> split <;> simp only <;> bv_omega
  · rw [x.move_config] at hlin
    have : (x.move d).revolution = x.revolution := by
      unfold Axis.move
      cases d <;> simp only [hlin]
    rw [this]
    exact hr hlin

theorem Axis.Sound.move (h : x.Sound) (d : Direction) : (x.move d).Sound := by
  refine ⟨h.1.move d, ?_⟩
  rw [x.move_frame d]
  exact h.2

/-- An axis that counts a phase error and faults at its threshold (R11, R12). -/
def Axis.withError (x : Axis) : Axis :=
  { x with errorTotal := satInc x.errorTotal, errorSince := satInc x.errorSince
           state := if x.faults then .faulted else x.state }

/-- A phase error that does not fault a COUNTING axis leaves its count below the threshold (R12). -/
theorem Axis.Sound.withError (h : x.Sound) (hcount : x.state = .counting) : x.withError.Sound := by
  refine ⟨h.1.of_eq rfl rfl rfl, fun hs => ?_, fun hs hne => ?_⟩
  · simp only [Axis.withError] at hs
    split at hs
    · cases hs
    · rw [hcount] at hs; cases hs
  · simp only [Axis.withError] at hs hne ⊢
    split at hs
    · cases hs
    rename_i hf
    have hlt := h.2.2 hs hne
    simp only [Axis.faults, Bool.and_eq_true, decide_eq_true_eq, not_and] at hf
    unfold satInc
    split
    · exact hlt
    · rename_i hmax
      have hne' := hf ⟨hne, hmax⟩
      bv_omega

theorem Axis.reset_sound : Axis.reset.Sound := ⟨⟨nofun, nofun, fun _ => rfl⟩, Axis.errorsSound_of_zero rfl⟩

theorem Axis.resetKeeping_sound (x : Axis) : x.resetKeeping.Sound :=
  Axis.reset_sound.of_eq rfl rfl rfl rfl rfl

/-- An admitted configuration takes effect within its range (R21). -/
theorem Axis.PositionSound.configure {c : AxisConfig} (h : x.PositionSound) (hc : c.Sound) :
    (x.configure c).PositionSound := by
  obtain ⟨_, hp, hr⟩ := h
  refine ⟨hc, fun hrot => ?_, fun hlin => ?_⟩
  · have hzero := hc.inRevolution_zero hrot
    have hrot' : c.range = .rotary := hrot
    simp only [Axis.configure, hrot']
    split
    · exact hzero
    · rename_i hload
      simp only [Bool.or_eq_true, decide_eq_true_eq, Bool.and_eq_true, not_or, not_and, not_not, ne_eq,
        true_implies] at hload
      rw [hload.2]
      exact hp hload.1.symm
  · have hlin' : c.range = .linear := hlin
    simp only [Axis.configure, hlin']
    split
    · rfl
    · rename_i hload
      simp only [Bool.or_eq_true, decide_eq_true_eq, not_or, not_not, ne_eq] at hload
      exact hr hload.1.symm

end

/-! ## The axes under every event -/

/-- Every axis is sound. -/
def State.AxesSound (s : State) : Prop := ∀ n, (s.axis n).Sound

section
variable {s t : State}

theorem State.AxesSound.of_eq (h : s.AxesSound) (e : t.axes = s.axes) : t.AxesSound := fun n => by
  rw [State.axis, e]
  exact h n

theorem State.AxesSound.setAxis (h : s.AxesSound) {n : AxisNo} {x : Axis} (hx : x.Sound) : (s.setAxis n x).AxesSound :=
  fun m => by
    rw [State.setAxis_axis]
    split
    · exact hx
    · exact h m

theorem State.AxesSound.of_set (h : s.AxesSound) {n : AxisNo} {x : Axis} (e : t.axes = s.axes.set n x) (hx : x.Sound) :
    t.AxesSound :=
  (h.setAxis hx).of_eq e

theorem State.AxesSound.takePair (h : s.AxesSound) (n : AxisNo) : (s.takePair n).AxesSound :=
  h.setAxis ((h n).of_eq rfl rfl rfl rfl rfl)

theorem State.phaseError_axes (n : AxisNo) (a : Option HostAction) (s : State) :
    (s.phaseError n a).axes = s.axes.set n (s.axis n).withError := by
  simp only [State.phaseError, Axis.withError]
  split <;> simp only [State.raise_axes, State.offer_axes, State.perform_axes, State.offerIf_axes, State.setAxis_axes]

theorem State.AxesSound.takeEvaluation (h : s.AxesSound) (e : AxisEvent) : (s.takeEvaluation e).AxesSound := by
  obtain ⟨_, he⟩ | ⟨ht, he⟩ := s.takeEvaluation_cases e <;> rw [he]
  · exact h
  have pair := h.takePair e.axis
  obtain ⟨d, _, he⟩ | ⟨_, he⟩ | ⟨_, he⟩ := s.evaluate_cases e <;> rw [he]
  · rw [State.countStep_frame]
    exact pair.of_set rfl ((pair e.axis).move d)
  · refine pair.of_set (State.phaseError_axes _ _ _) ((pair e.axis).withError ?_)
    rw [State.takePair, State.setAxis_axis_self]
    exact ((Axis.toEvaluate_iff _).mp ht).1
  · exact pair

theorem State.AxesSound.takeIndex (h : s.AxesSound) (n : AxisNo) (a : Option HostAction) : (s.takeIndex n a).AxesSound := by
  have before : (State.perform a (s.offerIf (s.axis n).config.recordIndex (.indexUnit n) (s.indexRecord n))).AxesSound :=
    h.of_eq (State.offerIf_axes _ _ _ _)
  simp only [State.takeIndex]
  split
  · generalize State.perform a (s.offerIf (s.axis n).config.recordIndex (.indexUnit n) (s.indexRecord n)) = t at before ⊢
    have hx := before n
    rw [State.homingLoad]
    exact (before.setAxis ⟨⟨hx.1.1, fun hr => (hx.1.1 hr).2.2, fun _ => rfl⟩, hx.2⟩ :
      (State.setAxis n { (t.axis n).load (t.axis n).config.reference 0 with homing := .referenced } t).AxesSound)
  · exact before

theorem State.AxesSound.takeZChange (h : s.AxesSound) (e : AxisEvent) : (s.takeZChange e).AxesSound := by
  have taken : (s.setAxis e.axis { s.axis e.axis with zChanged := false }).AxesSound :=
    h.setAxis ((h e.axis).of_eq rfl rfl rfl rfl rfl)
  obtain ⟨_, he⟩ | ⟨_, _, he⟩ | ⟨_, _, he⟩ := s.takeZChange_cases e <;> rw [he]
  · exact h
  · exact taken
  · exact taken.takeIndex _ _

theorem State.AxesSound.count (h : s.AxesSound) : s.count.AxesSound := fun n => by
  rw [show s.count.axis n = (s.axis n).tick by simp [State.axis]]
  exact (h n).of_eq rfl rfl rfl rfl rfl

theorem State.AxesSound.takeSample (h : s.AxesSound) (f : FilterInput) : (s.takeSample f).AxesSound := by
  cases f with
  | axis n a b z => exact h.setAxis ((h n).of_eq rfl rfl rfl rfl rfl)
  | trigger n raw => exact h
  | sync raw => exact h

/-- Every owner's event keeps the axes sound. -/
theorem State.AxesSound.owner (h : s.AxesSound) (k : Command) (u : UnitNo) : (k.owner u s).AxesSound := by
  have zero : ∀ {y : Axis}, y.config = (s.axis (axisOf u)).config → y.position = (s.axis (axisOf u)).position →
      y.revolution = (s.axis (axisOf u)).revolution → y.errorSince = 0 → y.Sound := fun hc hp hr he =>
    ⟨(h _).1.of_eq hc hp hr, Axis.errorsSound_of_zero he⟩
  cases k <;> simp only [Command.owner]
  case schedAppend => obtain ⟨_, _, _, e⟩ | ⟨_, e⟩ := s.acceptAppend_cases (axisOf u) <;> rw [e] <;> exact h
  case schedSkip =>
    obtain ⟨_, e⟩ | ⟨_, _, _, e⟩ := s.skipHead_cases (axisOf u) <;> rw [e]
    · exact h
    · exact h.of_eq (s.departHead_axes _)
  case schedFlush => obtain ⟨_, e⟩ | ⟨_, e⟩ := s.acceptFlush_cases (axisOf u) <;> rw [e] <;> exact h
  case axisConfig =>
    obtain ⟨hs, _, _, hb, e⟩ | ⟨_, _, e⟩ := s.configureAxis_cases (axisOf u) <;> rw [e]
    · have hx := h (axisOf u)
      exact h.of_set rfl ⟨hx.1.configure (AxisStaging.toConfig_admitted hb).sound,
        Axis.errorsSound_of_zero (hx.2.1 hs)⟩
    · exact h
  case axisStart =>
    obtain ⟨hs, e⟩ | ⟨_, e⟩ := s.startAxis_cases (axisOf u) <;> rw [e]
    · exact h.of_set rfl (zero rfl rfl rfl ((h _).2.1 hs))
    · exact h
  case axisStop =>
    obtain ⟨_, e⟩ | ⟨_, e⟩ | ⟨_, e⟩ := s.stopAxis_cases (axisOf u) <;> rw [e]
    · exact h
    · exact h.of_set rfl (zero rfl rfl rfl rfl)
    · exact h.of_set rfl (zero rfl rfl rfl rfl)
  case axisResume =>
    obtain ⟨_, e⟩ | ⟨_, e⟩ := s.resumeAxis_cases (axisOf u) <;> rw [e]
    · exact h.of_set rfl (zero rfl rfl rfl rfl)
    · exact h
  case axisSetpos =>
    obtain ⟨p, r, hpr, e⟩ | e := s.setPosition_cases (axisOf u) <;> rw [e]
    · have hx := h (axisOf u)
      refine h.of_set (x := (s.axis (axisOf u)).load p r) rfl ⟨⟨hx.1.1, fun hrot => ?_, fun hlin => ?_⟩, hx.2⟩
      · obtain ⟨hl, _⟩ | ⟨_, _, hp⟩ := hpr
        · rw [show (s.axis (axisOf u)).config.range = .rotary from hrot] at hl; cases hl
        · exact hp
      · obtain ⟨hl, hr⟩ | ⟨hr, _⟩ := hpr
        · exact hr.trans (hx.1.2.2 hl)
        · rw [show (s.axis (axisOf u)).config.range = .linear from hlin] at hr; cases hr
    · exact h
  case axisClrerr => exact h.of_set rfl (zero rfl rfl rfl rfl)
  case axisReset => exact h.of_set rfl (s.axis (axisOf u)).resetKeeping_sound
  case homeArm =>
    obtain ⟨_, _, e⟩ | ⟨_, e⟩ := s.armHoming_cases (axisOf u) <;> rw [e]
    · exact h
    · exact h.of_set rfl ((h (axisOf u)).of_eq rfl rfl rfl rfl rfl)
  case homeCancel =>
    obtain ⟨_, _, e⟩ | ⟨_, _, e⟩ := s.cancelHoming_cases (axisOf u) <;> rw [e]
    · exact h
    · exact h.of_set rfl ((h (axisOf u)).of_eq rfl rfl rfl rfl rfl)
  case syncDisarm => obtain ⟨_, e⟩ | e := s.disarmSync_cases <;> rw [e] <;> exact h
  case chipReset =>
    intro n
    rw [show (s.resetChip).axis n = (s.axis n).resetKeeping by simp [State.resetChip, State.axis, State.complete]]
    exact Axis.resetKeeping_sound _
  all_goals exact h

end

theorem axesSound_kept : Kept State.AxesSound where
  evaluation e _ h := h.takeEvaluation e
  zChange e _ h := h.takeZChange e
  levelChange n s h := h.of_eq (by rw [s.takeLevelChange_frame n])
  syncChange s h := h.of_eq (by rw [s.takeSyncChange_frame])
  holdoff _ _ h _ := h
  width _ _ h _ := h
  gap _ _ h _ := h
  latch _ h _ := h
  count _ h := h.count
  advance _ h := h
  sample f _ h := h.takeSample f
  pinReset _ n := by
    rw [show State.axis _ n = Axis.reset by simp [State.reset, State.axis]]
    exact Axis.reset_sound
  release _ h := h
  comparison n s h := h.of_eq (by rw [s.compareDeadline_frame n])
  appendStep _ _ _ _ h _ _ _ := h
  appendCompletion _ _ _ _ h _ _ := h
  flushStep s _ h _ := h.of_eq (by rw [s.returnHead_frame])
  flushCompletion _ _ h _ _ := h
  owner k u _ h _ := h.owner k u
  issue _ _ h _ := h
  write l d s h := h.of_eq (by rw [Window.write_frame])
  read l s h := h.of_eq (by rw [Window.read_frame])

/-! ## The interrupt unit under every event -/

theorem Interrupts.reset_sound : Interrupts.reset.Sound := by
  unfold Interrupts.Sound
  decide

theorem interruptsSound_kept : Kept (fun s => s.interrupts.Sound) where
  evaluation e s h := ((raised_keptByEvents s.interrupts).evaluation e s .refl).sound h
  zChange e s h := ((raised_keptByEvents s.interrupts).zChange e s .refl).sound h
  levelChange n s h := ((raised_keptByEvents s.interrupts).levelChange n s .refl).sound h
  syncChange s h := ((raised_keptByEvents s.interrupts).syncChange s .refl).sound h
  holdoff _ _ h _ := h
  width _ _ h _ := h
  gap _ _ h _ := h
  latch _ h _ := h
  count _ h := h
  advance _ h := h
  sample f s h := by rw [s.takeSample_frame f]; exact h
  pinReset _ := Interrupts.reset_sound
  release _ h := h
  comparison n s h := (State.raised_compareDeadline (s := s) .refl n).sound h
  appendStep _ _ _ _ h _ _ _ := h
  appendCompletion s _ detail aux h _ _ := (State.raised_complete (s := s) .refl .ok detail aux).sound h
  flushStep s _ h _ := by rw [s.returnHead_frame]; exact h
  flushCompletion s total h _ _ :=
    (State.raised_complete (State.raised_offer (s := State.setSchedule _ _ s) .refl _ _) _ _ _).sound h
  owner k u s h _ := by
    by_cases hk : k = .chipReset
    · subst hk
      exact (State.raised_complete (s := State.mk _ _ _ _ _ _ _ _ _ _ _ _ _) .refl _ _ _).sound Interrupts.reset_sound
    · exact (State.raised_owner (s := s) .refl k u hk).sound h
  issue _ _ h _ := h
  write l d s h := by
    by_cases hf : l = .flags
    · subst hf; exact Interrupts.clear_ready _ d h
    by_cases he : l = .enable
    · subst he; exact h
    exact (Window.raised_write (s := s) .refl l d hf he).sound h
  read l s h := by rw [Window.read_frame]; exact h

end Sys2Proof.Machine
end

section
/-! The lines, the triggers, the timebase and the drain keep the conditions of their chapters under every event (R45, R68, R90,
R101, R102, R110, R112, R122, R123). -/
namespace Sys2Proof.Machine

/-! ## Output lines -/

section
variable {x : Line}

/-- What the state of a line says of its timers (R90). -/
def LineState.Timed (st : LineState) (width gap : Option Nat) : Prop :=
  match st with
  | .static => width = none ∧ gap = none
  | .pulsing => width.isSome ∧ gap = none
  | .deferred => width.isSome ∧ gap = none
  | .gap => width = none ∧ gap.isSome

theorem Line.sound_iff : x.Sound ↔ x.width ≠ 0 ∧ x.gap ≠ 0 ∧ x.state.Timed x.widthTimer x.gapTimer := Iff.rfl

theorem Line.Sound.startPulse (h : x.Sound) : x.startPulse.Sound := ⟨h.1, h.2.1, rfl, rfl⟩

theorem Line.Sound.setLevel (h : x.Sound) (v : Bool) : (x.setLevel v).Sound := ⟨h.1, h.2.1, rfl, rfl⟩

theorem Line.Sound.collide (h : x.Sound) : x.collide.Sound := by
  obtain ⟨hw, hg, ht⟩ := Line.sound_iff.mp h
  refine Line.sound_iff.mpr ?_
  unfold Line.collide
  cases hs : x.state <;> cases x.policy <;> simp_all [LineState.Timed]

theorem Line.Sound.take (h : x.Sound) (k : RequestKind) : (x.take k).Sound := by
  cases k with
  | pulse =>
    simp only [Line.take]
    split
    · exact h.startPulse
    · exact h.collide
  | set => exact h.setLevel true
  | clear => exact h.setLevel false
  | toggle => exact h.setLevel _

theorem Line.Sound.expireWidth (h : x.Sound) : x.expireWidth.Sound := by
  obtain ⟨hw, hg, ht⟩ := Line.sound_iff.mp h
  refine Line.sound_iff.mpr ?_
  unfold Line.expireWidth
  cases hs : x.state <;> simp_all [LineState.Timed]

theorem Line.Sound.expireGap (h : x.Sound) : x.expireGap.Sound := by
  unfold Line.expireGap
  split
  · exact h.startPulse
  · exact h

theorem tickTimer_eq_map (t : Option Nat) : tickTimer t = t.map (· - 1) := by cases t <;> rfl

theorem Line.Sound.tick (h : x.Sound) : x.tick.Sound := by
  obtain ⟨hw, hg, ht⟩ := Line.sound_iff.mp h
  refine Line.sound_iff.mpr ⟨hw, hg, ?_⟩
  simp only [Line.tick, tickTimer_eq_map]
  cases hs : x.state <;> simp_all [LineState.Timed]

theorem Line.Sound.writeConfig (h : x.Sound) (d : Halfword) : (x.writeConfig d).Sound := by
  refine ⟨h.1, ?_, h.2.2⟩
  simp only [Line.writeConfig]
  split
  · exact h.2.1
  · assumption

theorem Line.Sound.writeWidth (h : x.Sound) (d : Halfword) : (x.writeWidth d).Sound := by
  refine ⟨?_, h.2.1, h.2.2⟩
  simp only [Line.writeWidth]
  split
  · exact h.1
  · assumption

theorem Line.reset_sound : Line.reset.Sound := ⟨by decide, by decide, rfl, rfl⟩

end

/-- Every output line is sound. -/
def State.LinesSound (s : State) : Prop := ∀ l, (s.line l).Sound

section
variable {s t : State}

theorem State.LinesSound.of_eq (h : s.LinesSound) (e : t.lines = s.lines) : t.LinesSound := fun l => by
  rw [State.line, e]
  exact h l

theorem State.LinesSound.of_set (h : s.LinesSound) {l : LineNo} {x : Line} (e : t.lines = s.lines.set l x) (hx : x.Sound) :
    t.LinesSound := fun m => by
  rw [show t.line m = (s.setLine l x).line m by rw [State.line, e]; rfl, State.setLine_line]
  split
  · exact hx
  · exact h m

theorem State.LinesSound.request (h : s.LinesSound) (l : LineNo) (k : RequestKind) : (s.request l k).LinesSound :=
  h.of_set rfl ((h l).take k)

/-- A fire reaches the lines by its request alone (R55). -/
theorem State.fire_lines (n : AxisNo) (k : Slot) (s : State) : (s.fire n k).lines = (s.sendOutput (s.entry k)).lines := by
  have out := s.fireOutput_eq n k
  by_cases h : (s.entry k).remaining - 1 = 0
  · rw [State.fire_of_last h, State.departHead_lines, out]
    rfl
  · rw [State.fire_of_more h, out]
    rfl

theorem State.LinesSound.arrival (h : s.LinesSound) (n : AxisNo) : (s.arrival n).LinesSound := by
  obtain e | ⟨k, _, _, _, _, _, e⟩ := s.arrival_cases n <;> rw [e]
  · exact h
  · refine State.LinesSound.of_eq ?_ (s.fire_lines n k)
    obtain ⟨_, e⟩ | ⟨q, _, e⟩ := s.sendOutput_cases (s.entry k) <;> rw [e]
    · exact h
    · exact h.request _ q

theorem State.LinesSound.takeEvaluation (h : s.LinesSound) (e : AxisEvent) : (s.takeEvaluation e).LinesSound := by
  obtain ⟨_, he⟩ | ⟨_, he⟩ := s.takeEvaluation_cases e <;> rw [he]
  · exact h
  obtain ⟨d, _, he⟩ | ⟨_, he⟩ | ⟨_, he⟩ := s.evaluate_cases e <;> rw [he]
  · rw [State.countStep_eq]
    refine State.LinesSound.arrival ?_ _
    rw [State.stepped_frame]
    exact h
  · rw [State.phaseError_frame]
    exact h
  · exact h

/-- An edge in READY sends a PULSE to the line of its trigger, where it has one (R110). -/
theorem State.readyEdge_lines (n : TriggerNo) (s : State) :
    (s.readyEdge n).lines = s.lines ∨ ∃ l k, (s.readyEdge n).lines = (s.request l k).lines := by
  simp only [State.readyEdge]
  split
  · refine .inr ⟨(s.trigger n).pulseLine, .pulse, ?_⟩
    rw [State.offerIf_frame]
    rfl
  · exact .inl (State.offerIf_lines _ _ _ _)

theorem State.LinesSound.takeLevelChange (h : s.LinesSound) (n : TriggerNo) : (s.takeLevelChange n).LinesSound := by
  obtain ⟨_, e⟩ | ⟨_, _, e⟩ | ⟨_, _, e⟩ := s.takeLevelChange_cases n <;> rw [e]
  · exact h
  · exact h
  have taken : (s.setTrigger n { s.trigger n with changed := false }).LinesSound := h
  unfold State.takeEdge
  split
  · obtain e | ⟨l, k, e⟩ := (s.setTrigger n { s.trigger n with changed := false }).readyEdge_lines n
    · exact taken.of_eq e
    · exact (taken.request l k).of_eq e
  · exact taken

theorem State.LinesSound.count (h : s.LinesSound) : s.count.LinesSound := fun l => by
  rw [show s.count.line l = (s.line l).tick by simp [State.line]]
  exact (h l).tick

theorem State.LinesSound.reset (e : t.lines = State.reset.lines) : t.LinesSound := fun l => by
  rw [State.line, e, show State.reset.lines[l] = Line.reset by simp [State.reset]]
  exact Line.reset_sound

theorem State.LinesSound.write (h : s.LinesSound) (l : Location) (d : Halfword) : (Window.write l d s).LinesSound := by
  obtain e | ⟨i, e⟩ | ⟨i, e⟩ := (Window.write_reach l d s).lines
  · exact h.of_eq e
  · exact h.of_set e ((h i).writeConfig d)
  · exact h.of_set e ((h i).writeWidth d)

theorem State.LinesSound.read (h : s.LinesSound) (l : Location) : (Window.read l s).LinesSound := by
  obtain ⟨v, e⟩ | ⟨n, e⟩ | e | ⟨i, e⟩ | e | e | e | e := Window.read_cases s l <;> rw [e]
  case inr.inr.inr.inl =>
    have hi := h i
    exact h.of_set rfl (⟨hi.1, hi.2.1, hi.2.2⟩ : ({ s.line i with collisions := 0 } : Line).Sound)
  all_goals exact h

theorem State.LinesSound.owner (h : s.LinesSound) (k : Command) (u : UnitNo) : (k.owner u s).LinesSound := by
  by_cases hk : k = .chipReset
  · subst hk
    exact .reset rfl
  · obtain e | ⟨l, q, e⟩ := (k.owner_reach u s hk).lines
    · exact h.of_eq e
    · exact (h.request l q).of_eq e

end

theorem linesSound_kept : Kept State.LinesSound where
  evaluation e _ h := h.takeEvaluation e
  zChange e s h := h.of_eq (by rw [s.takeZChange_frame e])
  levelChange n _ h := h.takeLevelChange n
  syncChange s h := h.of_eq (by rw [s.takeSyncChange_frame])
  holdoff _ _ h _ := h
  width l _ h _ := h.of_set rfl (h l).expireWidth
  gap l _ h _ := h.of_set rfl (h l).expireGap
  latch _ h _ := h
  count _ h := h.count
  advance _ h := h
  sample f s h := h.of_eq (by rw [s.takeSample_frame f])
  pinReset _ := .reset rfl
  release _ h := h
  comparison n s h := h.of_eq (by rw [s.compareDeadline_frame n])
  appendStep _ _ _ _ h _ _ _ := h
  appendCompletion _ _ _ _ h _ _ := h
  flushStep s _ h _ := h.of_eq (by rw [s.returnHead_frame])
  flushCompletion _ _ h _ _ := h
  owner k u _ h _ := h.owner k u
  issue _ _ h _ := h
  write l d _ h := h.write l d
  read l _ h := h.read l

/-! ## Triggers -/

/-- Every trigger is sound. -/
def State.TriggersSound (s : State) : Prop := ∀ n, (s.trigger n).Sound

section
variable {s t : State}

theorem Trigger.Sound.of_eq {x y : Trigger} (h : x.Sound) (hs : y.state = x.state) (ht : y.timer = x.timer) : y.Sound := by
  unfold Trigger.Sound at h ⊢
  rw [hs, ht]
  exact h

theorem Trigger.ready_sound {x : Trigger} (hs : x.state = .ready) (ht : x.timer = none) : x.Sound := by
  simp [Trigger.Sound, hs, ht]

theorem Trigger.Sound.startHoldoff {x : Trigger} (h : x.Sound) : x.startHoldoff.Sound := by
  unfold Trigger.startHoldoff
  split
  · exact h
  · simp [Trigger.Sound]

theorem State.TriggersSound.of_eq (h : s.TriggersSound) (e : t.triggers = s.triggers) : t.TriggersSound := fun n => by
  rw [State.trigger, e]
  exact h n

theorem State.TriggersSound.of_set (h : s.TriggersSound) {n : TriggerNo} {x : Trigger}
    (e : t.triggers = s.triggers.set n x) (hx : x.Sound) : t.TriggersSound := fun m => by
  rw [show t.trigger m = (s.setTrigger n x).trigger m by rw [State.trigger, e]; rfl, State.setTrigger_trigger]
  split
  · exact hx
  · exact h m

theorem State.readyEdge_triggers (n : TriggerNo) (s : State) :
    (s.readyEdge n).triggers = s.triggers.set n (s.trigger n).startHoldoff := by
  simp only [State.readyEdge]
  split <;> (rw [State.offerIf_frame]; rfl)

theorem State.TriggersSound.takeLevelChange (h : s.TriggersSound) (n : TriggerNo) :
    (s.takeLevelChange n).TriggersSound := by
  have taken : (s.setTrigger n { s.trigger n with changed := false }).TriggersSound :=
    h.of_set rfl ((h n).of_eq rfl rfl)
  obtain ⟨_, e⟩ | ⟨_, _, e⟩ | ⟨_, _, e⟩ := s.takeLevelChange_cases n <;> rw [e]
  · exact h
  · exact taken
  unfold State.takeEdge
  split
  · exact taken.of_set (State.readyEdge_triggers _ _) (taken n).startHoldoff
  · exact taken.of_set rfl ((taken n).of_eq rfl rfl)

theorem State.TriggersSound.count (h : s.TriggersSound) : s.count.TriggersSound := fun n => by
  rw [show s.count.trigger n = (s.trigger n).tick by simp [State.trigger]]
  have hn := h n
  unfold Trigger.Sound at hn ⊢
  rw [Trigger.tick, tickTimer_eq_map, Option.isSome_map]
  exact hn

theorem State.TriggersSound.write (h : s.TriggersSound) (l : Location) (d : Halfword) :
    (Window.write l d s).TriggersSound := by
  obtain e | ⟨n, e⟩ | ⟨n, e⟩ := (Window.write_reach l d s).triggers
  · exact h.of_eq e
  · exact h.of_set e ((h n).of_eq rfl rfl)
  · exact h.of_set e ((h n).of_eq rfl rfl)

theorem State.TriggersSound.owner (h : s.TriggersSound) (k : Command) (u : UnitNo) : (k.owner u s).TriggersSound := by
  by_cases hk : k = .chipReset
  · subst hk
    intro n
    rw [show ((Command.chipReset).owner u s).trigger n = (s.trigger n).resetKeeping by
      simp [Command.owner, State.resetChip, State.trigger, State.complete]]
    exact Trigger.ready_sound rfl rfl
  · exact h.of_eq (k.owner_reach u s hk).triggers

end

theorem triggersSound_kept : Kept State.TriggersSound where
  evaluation e s h := h.of_eq (by rw [s.takeEvaluation_frame e])
  zChange e s h := h.of_eq (by rw [s.takeZChange_frame e])
  levelChange n _ h := h.takeLevelChange n
  syncChange s h := h.of_eq (by rw [s.takeSyncChange_frame])
  holdoff n _ h _ := h.of_set rfl (Trigger.ready_sound rfl rfl)
  width _ _ h _ := h
  gap _ _ h _ := h
  latch _ h _ := h
  count _ h := h.count
  advance _ h := h
  sample f s h := by
    cases f with
    | axis n a b z => exact h
    | trigger n raw => exact h.of_set rfl ((h n).of_eq rfl rfl)
    | sync raw => exact h
  pinReset _ n := by
    rw [show State.trigger _ n = Trigger.reset by simp [State.reset, State.trigger]]
    exact Trigger.ready_sound rfl rfl
  release _ h := h
  comparison n s h := h.of_eq (by rw [s.compareDeadline_frame n])
  appendStep _ _ _ _ h _ _ _ := h
  appendCompletion _ _ _ _ h _ _ := h
  flushStep s _ h _ := h.of_eq (by rw [s.returnHead_frame])
  flushCompletion _ _ h _ _ := h
  owner k u _ h _ := h.owner k u
  issue _ _ h _ := h
  write l d _ h := h.write l d
  read l s h := h.of_eq (by rw [Window.read_frame])

/-! ## The trim of the timebase -/

section
variable {b c : Timebase} {s : State}

theorem Timebase.TrimSound.of_eq (h : b.TrimSound) (hi : c.interval = b.interval) (hn : c.intervalCount = b.intervalCount)
    (hm : c.trimMode = b.trimMode) : c.TrimSound := by
  unfold Timebase.TrimSound at h ⊢
  rw [hi, hn, hm]
  exact h

/-- An interval of its range with a count of 0. -/
theorem Timebase.trimSound_of_zero (h0 : c.intervalCount = 0) (h1 : Config.minTrimInterval ≤ c.interval.toNat)
    (h2 : c.interval.toNat ≤ Config.maxTrimInterval) : c.TrimSound :=
  ⟨h1, h2, by rw [h0]; exact Nat.lt_of_lt_of_le (by decide) h1, fun _ => h0⟩

theorem Timebase.TrimSound.tick (h : b.TrimSound) : b.tick.TrimSound := by
  obtain ⟨h1, h2, _, _⟩ := h
  by_cases ha : b.adjusts = true ∨ b.trimMode = .off
  · exact Timebase.trimSound_of_zero (by simp only [Timebase.tick, if_pos ha]) h1 h2
  · obtain ⟨hadj, hoff⟩ := not_or.mp ha
    refine ⟨h1, h2, ?_, fun h => absurd h hoff⟩
    simp only [Timebase.tick, if_neg ha]
    simp only [Timebase.adjusts, Bool.and_eq_true, decide_eq_true_eq, not_and] at hadj
    exact Nat.lt_of_not_le (hadj hoff)

theorem Timebase.TrimSound.writeTrimMode (h : b.TrimSound) (d : Halfword) : (b.writeTrimMode d).TrimSound := by
  have staged : b.stagedValid = true →
      Config.minTrimInterval ≤ b.stagedInterval.toNat ∧ b.stagedInterval.toNat ≤ Config.maxTrimInterval := fun hv => by
    simpa [Timebase.stagedValid] using hv
  unfold Timebase.writeTrimMode
  split
  · exact h
  · refine Timebase.trimSound_of_zero rfl ?_ ?_ <;> simp only <;> split
    · exact (staged ‹_›).1
    · exact h.1
    · exact (staged ‹_›).2
    · exact h.2.1
  · split
    · obtain ⟨h1, h2⟩ := staged ‹_›
      exact Timebase.trimSound_of_zero rfl h1 h2
    · exact h

theorem Timebase.resetKeeping_trimSound (b : Timebase) : b.resetKeeping.TrimSound :=
  Timebase.trimSound_of_zero rfl (Nat.le_refl 16) (by simp [Timebase.resetKeeping, Timebase.reset, Config.maxTrimInterval])

theorem State.takeSync_trimSound (h : s.timebase.TrimSound) : s.takeSync.timebase.TrimSound := by
  unfold State.takeSync
  split
  · exact h
  · rw [State.offerIf_timebase]
    exact h

theorem State.takeSyncChange_trimSound (h : s.timebase.TrimSound) : s.takeSyncChange.timebase.TrimSound := by
  obtain ⟨_, e⟩ | ⟨_, _, e⟩ | ⟨_, _, e⟩ := s.takeSyncChange_cases <;> rw [e]
  · exact h
  · exact h
  · exact State.takeSync_trimSound (s := State.setTimebase _ _) h

theorem Window.write_trimSound (h : s.timebase.TrimSound) (l : Location) (d : Halfword) :
    (Window.write l d s).timebase.TrimSound := by
  obtain e | ⟨_, _, _, e⟩ := (Window.write_reach l d s).timebase <;> rw [e]
  · exact h.writeTrimMode d
  · exact h

theorem Command.owner_trimSound (h : s.timebase.TrimSound) (k : Command) (u : UnitNo) :
    (k.owner u s).timebase.TrimSound := by
  by_cases hk : k = .chipReset
  · subst hk
    exact Timebase.resetKeeping_trimSound _
  · obtain ⟨_, _, _, e⟩ := (k.owner_reach u s hk).timebase
    rw [e]
    exact h

end

theorem trimSound_kept : Kept (fun s => s.timebase.TrimSound) where
  evaluation e s h := by rw [s.takeEvaluation_frame e]; exact h
  zChange e s h := by rw [s.takeZChange_frame e]; exact h
  levelChange n s h := by rw [s.takeLevelChange_frame n]; exact h
  syncChange _ h := State.takeSyncChange_trimSound h
  holdoff _ _ h _ := h
  width _ _ h _ := h
  gap _ _ h _ := h
  latch _ h _ := h
  count _ h := h
  advance _ h := h.tick
  sample f _ h := by cases f <;> exact h
  pinReset _ := Timebase.resetKeeping_trimSound Timebase.reset
  release _ h := h
  comparison n s h := by rw [s.compareDeadline_frame n]; exact h
  appendStep _ _ _ _ h _ _ _ := h
  appendCompletion _ _ _ _ h _ _ := h
  flushStep s _ h _ := by rw [s.returnHead_frame]; exact h
  flushCompletion _ _ h _ _ := h
  owner k u _ h _ := Command.owner_trimSound h k u
  issue _ _ h _ := h
  write l d _ h := Window.write_trimSound h l d
  read l s h := by
    obtain ⟨v, e⟩ | ⟨n, e⟩ | e | ⟨i, e⟩ | e | e | e | e := Window.read_cases s l <;> (rw [e]; exact h)

end Sys2Proof.Machine
end

section
/-! The DRAINING condition under every event (R45, R46, R68, R70), and the conditions of all units together. -/
namespace Sys2Proof.Machine

/-! ## The DRAINING condition of the schedules -/

/-- Each schedule of the second state is DRAINING just when it is in the first. -/
def State.SameDraining (s t : State) : Prop := ∀ n, (t.schedule n).draining = (s.schedule n).draining

section
variable {s t u : State}

theorem State.SameDraining.of_eq (h : s.SameDraining t) (e : u.schedules = t.schedules) : s.SameDraining u := fun n => by
  rw [State.schedule, e]
  exact h n

theorem State.SameDraining.refl (s : State) : s.SameDraining s := fun _ => rfl

theorem State.SameDraining.of_set (h : s.SameDraining t) {n : AxisNo} {x : Schedule} (e : u.schedules = t.schedules.set n x)
    (hx : x.draining = (t.schedule n).draining) : s.SameDraining u := fun m => by
  rw [State.schedule_of_set e]
  split
  · subst m
    exact hx.trans (h n)
  · exact h m

theorem State.SameDraining.returnHead (h : s.SameDraining t) (n : AxisNo) : s.SameDraining (t.returnHead n) := by
  obtain ⟨_, e⟩ | ⟨k, rest, _, e⟩ := t.returnHead_cases n <;> rw [e]
  · exact h
  · exact h.of_set rfl rfl

theorem State.SameDraining.departHead (h : s.SameDraining t) (n : AxisNo) : s.SameDraining (t.departHead n) :=
  (h.returnHead n).of_set rfl rfl

theorem State.SameDraining.fire (h : s.SameDraining t) (n : AxisNo) (k : Slot) : s.SameDraining (t.fire n k) := by
  have out : ∀ e, s.SameDraining ((t.fireOutput n k).setEntry k e) := fun e => h.of_eq (by
    rw [t.fireOutput_eq n k]
    rfl)
  by_cases hr : (t.entry k).remaining - 1 = 0
  · rw [State.fire_of_last hr]
    exact (out _).departHead n
  · rw [State.fire_of_more hr]
    exact out _

theorem State.SameDraining.takeEvaluation (h : s.SameDraining t) (e : AxisEvent) : s.SameDraining (t.takeEvaluation e) := by
  obtain ⟨_, he⟩ | ⟨_, he⟩ := t.takeEvaluation_cases e <;> rw [he]
  · exact h
  obtain ⟨d, _, he⟩ | ⟨_, he⟩ | ⟨_, he⟩ := t.evaluate_cases e <;> rw [he]
  · rw [State.countStep_eq]
    have stepped : s.SameDraining ((t.takePair e.axis).stepped e.axis e.between d) := h.of_eq (by
      rw [State.stepped_frame]
      rfl)
    obtain ha | ⟨k, _, _, _, _, _, ha⟩ := ((t.takePair e.axis).stepped e.axis e.between d).arrival_cases e.axis <;> rw [ha]
    · exact stepped
    · exact stepped.fire e.axis k
  · rw [State.phaseError_frame]
    exact h
  · exact h

theorem State.SameDraining.takeUpAll (h : s.SameDraining t) (e : u.schedules = t.takeUpAll.schedules) :
    s.SameDraining u := fun n => by
  rw [State.schedule, e]
  exact (congrArg Schedule.draining (t.takeUpAll_schedule n) :).trans (h n)

theorem State.SameDraining.takeSyncChange (h : s.SameDraining t) : s.SameDraining t.takeSyncChange := by
  obtain ⟨_, e⟩ | ⟨_, _, e⟩ | ⟨_, _, e⟩ := t.takeSyncChange_cases <;> rw [e]
  · exact h
  · exact h
  · unfold State.takeSync
    split
    · exact h.takeUpAll rfl
    · exact h.of_eq (State.offerIf_schedules _ _ _ _)

theorem sameDraining_keptByEvents (s : State) : KeptByEvents (fun t => s.SameDraining t) where
  evaluation e _ h := h.takeEvaluation e
  zChange e t h := h.of_eq (by rw [t.takeZChange_frame e])
  levelChange n t h := h.of_eq (by rw [t.takeLevelChange_frame n])
  syncChange _ h := h.takeSyncChange
  holdoff _ _ h _ := h
  width _ _ h _ := h
  gap _ _ h _ := h
  latch _ h _ := h
  count _ h := h
  advance t h := by
    by_cases ha : t.timebase.advance = 0
    · exact h.of_eq (if_pos ha)
    · exact h.takeUpAll (if_neg ha)
  sample f t h := h.of_eq (by rw [t.takeSample_frame f])

theorem State.SameDraining.compareDeadline (h : s.SameDraining t) (n : AxisNo) : s.SameDraining (t.compareDeadline n) := by
  have compared : s.SameDraining (t.setSchedule n { t.schedule n with compareDue := false }) := h.of_set rfl rfl
  obtain e | ⟨k, rest, _, _, _, e⟩ := t.compareDeadline_cases n <;> rw [e]
  · exact compared
  · exact State.SameDraining.departHead (t := State.offer _ _ _) compared n

end

/-! ## The drain of a flush -/

/-- A flush executes. -/
def Engine.Flushes (e : Engine) : Prop := ∃ total, e.phase = .flushing total

section
variable {s t : State}

/-- While no flush executes no schedule is DRAINING. -/
theorem State.drainSound_iff_of_not_flushes (h : ¬ s.engine.Flushes) :
    s.DrainSound ↔ ∀ n, (s.schedule n).draining = false := by
  have none : ∀ total, s.engine.phase ≠ .flushing total := fun total hp => h ⟨total, hp⟩
  constructor
  · exact fun hs n => Bool.eq_false_iff.mpr fun hd => h ((hs n).1.mp hd).2
  · exact fun hd n => ⟨⟨fun hn => absurd hn (by rw [hd n]; nofun), fun hn => absurd hn.2 h⟩,
      fun total _ hp => absurd hp (none total)⟩

/-- Nothing begins or ends a drain, and no list grows. -/
theorem State.DrainSound.of_same (h : s.DrainSound) (hd : s.SameDraining t)
    (hl : ∀ n, (t.schedule n).list.length ≤ (s.schedule n).list.length) (he : t.engine = s.engine) : t.DrainSound :=
  fun n => by
    rw [hd n, he]
    exact ⟨(h n).1, fun total hu hp => (hl n).trans ((h n).2 total hu hp)⟩

theorem State.DrainSound.of_slots (h : s.DrainSound) (hd : s.SameDraining t) (hk : s.SlotsKept t)
    (he : t.engine = s.engine) : t.DrainSound :=
  h.of_same hd (fun n => (hk.list n).length_le) he

/-- No flush executes before or after. -/
theorem State.DrainSound.of_not_flushes (h : s.DrainSound) (hs : ¬ s.engine.Flushes) (ht : ¬ t.engine.Flushes)
    (hd : ∀ n, (s.schedule n).draining = false → (t.schedule n).draining = false) : t.DrainSound :=
  (State.drainSound_iff_of_not_flushes ht).mpr fun n => hd n ((State.drainSound_iff_of_not_flushes hs).mp h n)

theorem Engine.not_flushes_of_eq {e : Engine} {p : CommandPhase} (h : e.phase = p) (hp : ∀ total, p ≠ .flushing total) :
    ¬ e.Flushes := by
  rintro ⟨total, hf⟩
  exact hp total (h.symm.trans hf)

theorem State.complete_not_flushes (s : State) (code : ResultCode) (detail aux : BitVec 16) :
    ¬ (s.complete code detail aux).engine.Flushes := Engine.not_flushes_of_eq rfl nofun

theorem State.Blank.drainSound (h : t.Blank) : t.DrainSound :=
  (State.drainSound_iff_of_not_flushes (Engine.not_flushes_of_eq h.idle nofun)).mpr fun n => by
    rw [h.schedule]
    rfl

/-- A host write carries a flush on, or leaves none. -/
theorem Window.write_flush (l : Location) (d : Halfword) (s : State) :
    ((Window.write l d s).engine.phase = s.engine.phase ∧ (Window.write l d s).engine.unit = s.engine.unit) ∨
    (¬ s.engine.Flushes ∧ ¬ (Window.write l d s).engine.Flushes) := by
  cases l
  case cmd =>
    simp only [Window.write]
    obtain ⟨_, e⟩ | ⟨hi, c, _, _, e⟩ | ⟨hi, code, detail, aux, _, e⟩ := s.commandWrite_cases d <;> rw [e]
    · exact .inl ⟨rfl, rfl⟩
    · exact .inr ⟨Engine.not_flushes_of_eq hi nofun, Engine.not_flushes_of_eq (p := .issued) rfl nofun⟩
    · exact .inr ⟨Engine.not_flushes_of_eq hi nofun, State.complete_not_flushes _ _ _ _⟩
  case stageSel => simp only [Window.write, State.writeStageSel]; split <;> exact .inl ⟨rfl, rfl⟩
  case staged k => simp only [Window.write, State.writeStaged]; split <;> exact .inl ⟨rfl, rfl⟩
  case axisStaging k => simp only [Window.write, State.writeAxisStaging]; split <;> exact .inl ⟨rfl, rfl⟩
  case viewPointer => simp only [Window.write, State.writeViewPointer]; split <;> exact .inl ⟨rfl, rfl⟩
  case jctrl =>
    simp only [Window.write]
    obtain ⟨a, e⟩ | e := s.writeControl_cases d <;> rw [e] <;> exact .inl ⟨rfl, rfl⟩
  all_goals exact .inl ⟨rfl, rfl⟩

/-- A host write keeps the drain as it is (R185). -/
theorem State.DrainSound.write (h : s.DrainSound) (l : Location) (d : Halfword) : (Window.write l d s).DrainSound := by
  have hsch : (Window.write l d s).schedules = s.schedules := by rw [Window.write_frame]
  have schedule : ∀ n, (Window.write l d s).schedule n = s.schedule n := fun n => by rw [State.schedule, hsch]; rfl
  obtain ⟨hp, hu⟩ | ⟨hs, ht⟩ := Window.write_flush l d s
  · intro n
    rw [schedule, hp, hu]
    exact h n
  · exact h.of_not_flushes hs ht fun n hn => by rw [schedule]; exact hn

/-- An owner's event begins the drain of its own schedule, or leaves no schedule DRAINING that was not (R68). -/
theorem Command.owner_drain (k : Command) (u : UnitNo) (s : State) :
    (∃ n, k.owner u s = (s.setSchedule n { s.schedule n with draining := true }).setEngine
      { s.engine with phase := .flushing (s.schedule n).list.length } ∧ n = axisOf u) ∨
    (¬ (k.owner u s).engine.Flushes ∧ ∀ n, (s.schedule n).draining = false → ((k.owner u s).schedule n).draining = false) := by
  have done : ∀ {t : State} {code detail aux}, s.SameDraining t →
      ¬ (t.complete code detail aux).engine.Flushes ∧
      ∀ n, (s.schedule n).draining = false → ((t.complete code detail aux).schedule n).draining = false := fun ht =>
    ⟨State.complete_not_flushes _ _ _ _, fun n hn => (ht n).trans hn⟩
  have self := State.SameDraining.refl s
  cases k <;> simp only [Command.owner]
  case schedAppend =>
    obtain ⟨_, _, _, e⟩ | ⟨_, e⟩ := s.acceptAppend_cases (axisOf u) <;> rw [e]
    · exact .inr (done self)
    · exact .inr ⟨Engine.not_flushes_of_eq (p := .appending _) rfl nofun, fun _ hn => hn⟩
  case schedSkip =>
    obtain ⟨_, e⟩ | ⟨_, _, _, e⟩ := s.skipHead_cases (axisOf u) <;> rw [e]
    · exact .inr (done self)
    · exact .inr (done (self.departHead _))
  case schedFlush =>
    obtain ⟨_, e⟩ | ⟨_, e⟩ := s.acceptFlush_cases (axisOf u) <;> rw [e]
    · exact .inr (done self)
    · exact .inl ⟨_, rfl, rfl⟩
  case schedHold => exact .inr (done (self.of_set rfl rfl))
  case schedRun => exact .inr (done (self.of_set rfl rfl))
  case axisConfig =>
    obtain ⟨_, _, _, _, e⟩ | ⟨_, _, e⟩ := s.configureAxis_cases (axisOf u) <;> rw [e]
    · exact .inr (done (t := State.setAxis _ _ _) self)
    · exact .inr (done self)
  case axisStart =>
    obtain ⟨_, e⟩ | ⟨_, e⟩ := s.startAxis_cases (axisOf u) <;> rw [e]
    · exact .inr (done (t := State.setAxis _ _ _) self)
    · exact .inr (done self)
  case axisStop =>
    obtain ⟨_, e⟩ | ⟨_, e⟩ | ⟨_, e⟩ := s.stopAxis_cases (axisOf u) <;> rw [e]
    · exact .inr (done self)
    · exact .inr (done (t := State.setAxis _ _ _) self)
    · exact .inr (done (self.of_set rfl rfl))
  case axisResume =>
    obtain ⟨_, e⟩ | ⟨_, e⟩ := s.resumeAxis_cases (axisOf u) <;> rw [e]
    · exact .inr (done (self.of_set rfl rfl))
    · exact .inr (done self)
  case axisSetpos =>
    obtain ⟨_, _, _, e⟩ | e := s.setPosition_cases (axisOf u) <;> rw [e]
    · exact .inr (done (t := State.setAxis _ _ _) self)
    · exact .inr (done self)
  case axisReset =>
    refine .inr ⟨State.complete_not_flushes _ _ _ _, fun n hn => ?_⟩
    have hsch : (s.resetAxis (axisOf u)).schedules = s.schedules.set (axisOf u) Schedule.reset := rfl
    rw [State.schedule_of_set hsch]
    split
    · rfl
    · exact hn
  case homeArm =>
    obtain ⟨_, _, e⟩ | ⟨_, e⟩ := s.armHoming_cases (axisOf u) <;> rw [e]
    · exact .inr (done self)
    · exact .inr (done (t := State.setAxis _ _ _) self)
  case homeCancel =>
    obtain ⟨_, _, e⟩ | ⟨_, _, e⟩ := s.cancelHoming_cases (axisOf u) <;> rw [e]
    · exact .inr (done self)
    · exact .inr (done (t := State.setAxis _ _ _) self)
  case timeSet =>
    rw [State.setTime]
    exact .inr (done (t := State.offer _ _ (State.loadTime _ _)) (self.takeUpAll rfl))
  case syncDisarm =>
    obtain ⟨_, e⟩ | e := s.disarmSync_cases <;> rw [e]
    · exact .inr (done self)
    · exact .inr (done (t := State.setTimebase _ _) self)
  case chipReset =>
    refine .inr ⟨State.complete_not_flushes _ _ _ _, fun n _ => ?_⟩
    simp [State.resetChip, State.schedule, State.complete, State.reset, Schedule.reset]
  case axisClrerr => exact .inr (done (t := State.setAxis _ _ _) self)
  case syncArm => exact .inr (done (t := State.setTimebase _ _) self)
  case snapshot => exact .inr (done (t := State.offer _ _ _) self)
  all_goals exact .inr (done (t := State.request _ _ _) self)

theorem State.DrainSound.owner (h : s.DrainSound) (k : Command) (u : UnitNo) (hw : s.awaits k u = true) :
    (k.owner u s).DrainSound := by
  obtain ⟨hissued, _, hu⟩ := (State.awaits_iff _ _ _).mp hw
  have hs : ¬ s.engine.Flushes := Engine.not_flushes_of_eq hissued nofun
  obtain ⟨n, e, hn⟩ | ⟨ht, hd⟩ := k.owner_drain u s
  · rw [e]
    intro m
    have hm := (State.drainSound_iff_of_not_flushes hs).mp h m
    rw [State.setEngine_schedule, State.setSchedule_schedule, State.setEngine_engine]
    by_cases hmn : n = m
    · subst hmn
      rw [if_pos rfl]
      exact ⟨⟨fun _ => ⟨by rw [hn, ← hu], _, rfl⟩, fun _ => rfl⟩, fun total _ hp =>
        le_of_eq (CommandPhase.flushing.inj hp)⟩
    · rw [if_neg hmn]
      have hne : axisOf s.engine.unit ≠ m := fun h' => hmn (by rw [hn, ← hu, h'])
      exact ⟨⟨fun h' => absurd h' (by rw [hm]; nofun), fun h' => absurd h'.1 hne⟩, fun _ h' => absurd h' hne⟩
  · exact h.of_not_flushes hs ht hd

/-- The completion of a flush ends the drain of its schedule (R71). -/
theorem State.DrainSound.completeFlush (h : s.DrainSound) (total : Nat) : (s.completeFlush total).DrainSound := by
  refine (State.drainSound_iff_of_not_flushes (State.complete_not_flushes _ _ _ _)).mpr fun n => ?_
  simp only [State.complete_schedule, State.offer_schedule, State.setSchedule_schedule]
  split
  · rfl
  · exact Bool.eq_false_iff.mpr fun hd => ‹¬ axisOf s.engine.unit = n› ((h n).1.mp hd).1

end

theorem drainSound_kept : Kept State.DrainSound := by
  have k := sameDraining_keptByEvents
  have sl := slotsKept_keptByEvents
  have e := fun s : State => engine_keptByEvents s.engine
  have self := State.SameDraining.refl
  have slots := State.SlotsKept.refl
  exact {
    evaluation := fun x s h => h.of_slots ((k s).evaluation x s (self s)) ((sl s).evaluation x s (slots s))
      ((e s).evaluation x s rfl)
    zChange := fun x s h => h.of_slots ((k s).zChange x s (self s)) ((sl s).zChange x s (slots s)) ((e s).zChange x s rfl)
    levelChange := fun n s h => h.of_slots ((k s).levelChange n s (self s)) ((sl s).levelChange n s (slots s))
      ((e s).levelChange n s rfl)
    syncChange := fun s h => h.of_slots ((k s).syncChange s (self s)) ((sl s).syncChange s (slots s))
      ((e s).syncChange s rfl)
    holdoff := fun _ _ h _ => h
    width := fun _ _ h _ => h
    gap := fun _ _ h _ => h
    latch := fun _ h _ => h
    count := fun _ h => h
    advance := fun s h => h.of_slots ((k s).advance s (self s)) ((sl s).advance s (slots s)) rfl
    sample := fun f s h => h.of_slots ((k s).sample f s (self s)) ((sl s).sample f s (slots s)) ((e s).sample f s rfl)
    pinReset := fun q => State.Blank.drainSound ⟨rfl, fun n => by simp [State.reset, State.schedule],
      fun n => by simp [State.reset, State.axis, Axis.reset], rfl⟩
    release := fun _ h => h
    comparison := fun n s h => h.of_slots ((self s).compareDeadline n) (s.slotsKept_compareDeadline n)
      (by rw [s.compareDeadline_frame n])
    appendStep := fun s p slot rest h hp _ _ =>
      h.of_not_flushes (Engine.not_flushes_of_eq hp nofun) (Engine.not_flushes_of_eq (p := .appending _) rfl nofun)
        fun n hn => by
          simp only [State.appendEntry, State.setEngine_schedule, State.setSchedule_schedule, State.setPool_schedule]
          split
          · subst n; exact hn
          · exact hn
    appendCompletion := fun s p _ _ h hp _ =>
      h.of_not_flushes (Engine.not_flushes_of_eq hp nofun) (State.complete_not_flushes _ _ _ _) fun _ hn => hn
    flushStep := fun s total h _ => h.of_slots ((self s).returnHead _) (s.slotsKept_returnHead _)
      (by rw [s.returnHead_frame])
    flushCompletion := fun s total h _ _ => h.completeFlush total
    owner := fun c u s h hw => h.owner c u hw
    issue := fun d s h hi =>
      h.of_not_flushes (Engine.not_flushes_of_eq hi nofun) (Engine.not_flushes_of_eq (p := .issued) rfl nofun)
        fun _ hn => hn
    write := fun l d s h => h.write l d
    read := fun l s h => by rw [Window.read_frame]; exact h }

/-! ## All units -/

theorem State.unitsSound_iff (s : State) : s.UnitsSound ↔
    s.AxesSound ∧ s.LinesSound ∧ s.TriggersSound ∧ s.timebase.TrimSound ∧ s.DrainSound ∧ s.interrupts.Sound := Iff.rfl

/-- Settles O59: each of the six conditions is kept by every event on its own. -/
theorem stepsKeepEveryUnitSound : Obligations.StepsKeepEveryUnitSound := by
  intro s t hs h
  obtain ⟨ha, hl, ht, hb, hd, hi⟩ := s.unitsSound_iff.mp hs
  exact t.unitsSound_iff.mpr ⟨axesSound_kept.step (fun _ _ h => h) h ha, linesSound_kept.step (fun _ _ h => h) h hl,
    triggersSound_kept.step (fun _ _ h => h) h ht, trimSound_kept.step (fun _ _ h => h) h hb,
    drainSound_kept.step (fun _ _ h => h) h hd, interruptsSound_kept.step (fun _ _ h => h) h hi⟩

end Sys2Proof.Machine
end

section
/-! The capture journal keeps its conditions (R134, R135, R138, R139, R144, R146, R152 to R154): the moment and its reader under
one more admission and under a reader action, and the records that the blocks offer. -/
namespace Sys2Proof.Machine

/-! ## The length of an encoding -/

/-- The halfwords of a gang group, where there is one. -/
def Content.gangLength (c : Content) : Nat := c.gang.elim 0 fun g => 1 + 2 * g.present.length

theorem Content.gangLength_le (c : Content) : c.gangLength ≤ if c.gang.isSome then 9 else 0 := by
  unfold Content.gangLength
  cases c.gang with
  | none => exact Nat.le_refl 0
  | some g => have := g.present_length_le; simp only [Option.elim_some, Option.isSome_some, if_true]; omega

/-- The length of the encoding of each cause (R194). -/
theorem Record.encode_length_of_shaped {r : Record} (h : r.content.Shaped) : r.encode.length =
    (match r.content.cause with
      | .index => 8 | .homed => 9 | .compare => 9 + r.content.gangLength | .expired => 9 | .flushed => 7 | .phaseErr => 9
      | .fault => 9 | .wrap => 8 | .trigger => 6 + r.content.gangLength | .snapshot => 5 + r.content.gangLength
      | .sync => if r.content.value48.isSome then 8 else 5 | .timeset => 8 | .loss => 7) +
    if r.content.revolution.isSome then 1 else 0 := by
  obtain ⟨_, hg⟩ := h
  rw [Record.encode_length, ← Content.gangLength]
  have none_gang : r.content.gang.isSome = false → r.content.gangLength = 0 := fun h => by
    rw [Content.gangLength, Option.isSome_eq_false_iff.mp h |> Option.isNone_iff_eq_none.mp]
    rfl
  generalize r.content.gangLength = g at none_gang ⊢
  cases hc : r.content.cause <;> simp only [hc, Content.groups, List.cons.injEq, and_true, true_and] at hg
  case sync => cases r.content.value48 <;> simp [hg, none_gang]; omega
  all_goals simp [hg, none_gang]; try omega

theorem Record.encode_length_le {r : Record} (h : r.content.Shaped) : r.encode.length ≤ 19 := by
  have hlen := Record.encode_length_of_shaped h
  have hg := r.content.gangLength_le
  have h9 : (if r.content.gang.isSome then 9 else 0) ≤ 9 := by split <;> omega
  have h1 : (if r.content.revolution.isSome then 1 else 0) ≤ 1 := by split <;> omega
  have h8 : (if r.content.value48.isSome then 8 else 5) ≤ 8 := by split <;> omega
  cases hc : r.content.cause <;> simp only [hc] at hlen <;> omega

/-! ## The contents of a journal -/

/-- Every record of the ring carries the groups of its cause, and the view is within 32 halfwords. -/
def Arbiter.Shaped (a : Arbiter) : Prop := (∀ r ∈ a.ring, r.content.Shaped) ∧ a.view.length ≤ Config.viewCapacity

/-- What the event may put into the ring carries the groups of its cause. -/
def JournalEvent.Shaped (e : JournalEvent) : Prop := ∀ c, e.content = some c → c.Shaped

section
variable {a : Arbiter}

theorem Arbiter.Shaped.take (h : a.Shaped) {e : JournalEvent} (he : e.Shaped) : (a.take e).Shaped := by
  obtain ⟨hring, hview⟩ := h
  have append : ∀ (rest : List Record) (c : Content) (q : BitVec 16), (∀ r ∈ rest, r ∈ a.ring) → c.Shaped →
      ∀ r ∈ rest ++ [{ seq := q, content := c }], r.content.Shaped := fun rest c q hrest hc r hr => by
    obtain hr | hr := List.mem_append.mp hr
    · exact hring r (hrest r hr)
    · rw [List.mem_singleton.mp hr]; exact hc
  have removed : ∀ rest loss, (∀ r ∈ rest, r ∈ a.ring) → (∀ c, loss = some c → c.Shaped) →
      ∀ r ∈ (a.remove rest loss).ring, r.content.Shaped := fun rest loss hrest hloss => by
    obtain ⟨_, h, _⟩ | ⟨c, hc, h, _⟩ := a.remove_cases rest loss <;> rw [h]
    · exact fun r hr => hring r (hrest r hr)
    · exact append rest c _ hrest (hloss c hc)
  cases e with
  | admission o =>
    refine ⟨?_, hview⟩
    simp only [Arbiter.take]
    obtain ⟨_, e⟩ | ⟨_, _, e⟩ | ⟨_, _, e⟩ := admitOne_cases a.mode (a.ring, a.nextSeq) o.content <;> rw [e]
    · exact append _ _ _ (fun _ h => h) (he _ rfl)
    · exact hring
    · exact append _ _ _ (fun _ h => List.mem_of_mem_tail h) (he _ rfl)
  | openOldest =>
    refine ⟨hring, ?_⟩
    simp only [Arbiter.take]
    cases hr : a.ring with
    | nil => exact hview
    | cons r rest =>
      have := Record.encode_length_le (hring r (by rw [hr]; exact List.mem_cons_self))
      exact this.trans (by decide)
  | release loss =>
    exact ⟨removed _ _ (fun _ h => List.mem_of_mem_tail h) he, by rw [Arbiter.take, Arbiter.remove_view]; exact hview⟩
  | discard loss => exact ⟨removed _ _ (fun _ h => by cases h) he, Nat.zero_le _⟩
  | setMode m => exact ⟨hring, hview⟩

theorem Arbiter.Shaped.replay {es : List JournalEvent} (h : a.Shaped) (hes : ∀ e ∈ es, e.Shaped) : (a.replay es).Shaped := by
  induction es generalizing a with
  | nil => exact h
  | cons e es ih => exact ih (h.take (hes e List.mem_cons_self)) fun f hf => hes f (List.mem_cons_of_mem e hf)

end

/-- An event of a refilled moment is one of the offers put in, or an event of the moment. -/
theorem mem_refill {e : JournalEvent} {es : List JournalEvent} {os : List Offer} (h : e ∈ refill es os) :
    (∃ o ∈ os, e = .admission o) ∨ e ∈ es := by
  induction es generalizing os with
  | nil => rw [refill] at h; cases h
  | cons f es ih =>
    have other : ∀ {g}, e ∈ g :: refill es os → e = g ∨ (∃ o ∈ os, e = .admission o) ∨ e ∈ es := fun h =>
      (List.mem_cons.mp h).imp_right ih
    cases f with
    | admission o =>
      cases os with
      | nil =>
        obtain h | h | h := other h
        · exact .inr (h ▸ List.mem_cons_self)
        · exact .inl h
        · exact .inr (List.mem_cons_of_mem _ h)
      | cons p os =>
        obtain h | h := List.mem_cons.mp h
        · exact .inl ⟨p, List.mem_cons_self, h⟩
        · obtain ⟨q, hq, hq'⟩ | h := ih h
          · exact .inl ⟨q, List.mem_cons_of_mem _ hq, hq'⟩
          · exact .inr (List.mem_cons_of_mem _ h)
    | openOldest | release l | discard l | setMode m =>
      obtain h | h | h := other h
      · exact .inr (h ▸ List.mem_cons_self)
      · exact .inl h
      · exact .inr (List.mem_cons_of_mem _ h)

theorem mem_offersOf {o : Offer} {es : List JournalEvent} (h : o ∈ offersOf es) : .admission o ∈ es := by
  induction es with
  | nil => cases h
  | cons f es ih =>
    cases f with
    | admission p =>
      obtain rfl | h := List.mem_cons.mp h
      · exact List.mem_cons_self
      · exact List.mem_cons_of_mem _ (ih h)
    | openOldest | release l | discard l | setMode m => exact List.mem_cons_of_mem _ (ih h)

/-- One more admission puts nothing but its own record into the moment. -/
theorem Moment.receive_shaped {m : Moment} (h : ∀ e ∈ m.events, e.Shaped) {o : Offer} (ho : o.content.Shaped) :
    ∀ e ∈ (m.receive o).events, e.Shaped := by
  have admission : ∀ p : Offer, p.content.Shaped → (JournalEvent.admission p).Shaped := fun p hp c hc =>
    Option.some.inj hc ▸ hp
  intro e he
  obtain ⟨p, hp, rfl⟩ | he := mem_refill he
  · obtain rfl | hp := (mem_insertOffer _ _ _).mp hp
    · exact admission p ho
    · exact h _ (mem_offersOf hp)
  · obtain he | he := List.mem_append.mp he
    · exact h e he
    · rw [List.mem_singleton.mp he]
      exact admission o ho

/-! ## The moment of a sound journal -/

section
variable {j : Journal}

theorem Journal.RingSound.replay (h : j.RingSound) : j.moment.start.replay j.moment.events = j.arbiter := h.2.2.2.2.2

/-- Whichever offers stand in the places of the admissions, the counts are those of the journal. -/
theorem Journal.RingSound.refill_count (h : j.RingSound) (os : List Offer) :
    (j.moment.start.replay (refill j.moment.events os)).SameCount j.arbiter := by
  have := Arbiter.SameCount.replay (a := j.moment.start) ⟨rfl, rfl, rfl⟩ j.moment.events os (offersOf j.moment.events)
  rwa [refill_offersOf, h.replay] at this

/-- Whatever offers stand in the places of the admissions, the oldest record is the opened one, and the view holds it. -/
def Journal.ViewsOldest (j : Journal) : Prop :=
  ∀ os : List Offer, os.length = (offersOf j.moment.events).length →
    ∃ r, (j.moment.start.replay (refill j.moment.events os)).ring.head? = some r ∧
      (j.moment.start.replay (refill j.moment.events os)).view = r.encode

/-- The conditions of the whole journal, written out. -/
theorem Journal.sound_iff : j.Sound ↔
    j.RingSound ∧ (j.openedMark = true → j.reader = .opened ∧ j.ViewsOldest) ∧
    (j.reader = .opened → j.ring ≠ [] ∧ (j.mode = .stop → j.openedMark = true)) ∧ j.arbiter.Shaped ∧
    j.moment.start.Shaped ∧ (∀ e ∈ j.moment.events, e.Shaped) ∧ j.viewPointer ≤ Config.viewCapacity ∧ j.AgeSound := by
  unfold Journal.Sound Journal.ReaderSound Journal.RecordsShaped Arbiter.Shaped Journal.ViewsOldest JournalEvent.Shaped
    Journal.arbiter
  tauto

/-! ## An action in the moment -/

theorem JournalEvent.Shaped.of_content {e : JournalEvent} (h : e.content = none) : e.Shaped := fun c hc => by
  rw [h] at hc
  cases hc

/-- Refilling after one more event that is no admission. -/
theorem refill_append_action (es : List JournalEvent) {e : JournalEvent} (he : offersOf [e] = []) (os : List Offer)
    (h : os.length = (offersOf es).length) : refill (es ++ [e]) os = refill es os ++ [e] := by
  have := refill_append es [e] os [] h
  rw [List.append_nil] at this
  rw [this]
  cases e with
  | admission o => cases he
  | openOldest | release l | discard l | setMode m => rfl

theorem Journal.RingSound.act (h : j.RingSound) (e : JournalEvent)
    (hloss : j.pendingLoss ≠ 0 → (j.act e).ring.length = Config.ringCapacity ∧ (j.act e).mode = .stop) :
    (j.act e).RingSound := by
  obtain ⟨hl, hn, _, hsl, hsn, hr⟩ := h
  refine ⟨j.arbiter.take_length e hl, j.arbiter.take_numbered e hn, hloss, hsl, hsn, ?_⟩
  rw [Journal.act_arbiter, Journal.act_start, Journal.act_events, Arbiter.replay_append, hr]
  rfl

theorem Journal.act_shaped (h : ∀ e ∈ j.moment.events, e.Shaped) {e : JournalEvent} (he : e.Shaped) :
    ∀ f ∈ (j.act e).moment.events, f.Shaped := fun f hf => by
  obtain hf | hf := List.mem_append.mp hf
  · exact h f hf
  · rw [List.mem_singleton.mp hf]; exact he

theorem offersOf_act {e : JournalEvent} (he : offersOf [e] = []) :
    offersOf (j.act e).moment.events = offersOf j.moment.events := by
  rw [Journal.act_events, offersOf_append, he, List.append_nil]

/-! ## OPEN -/

theorem Journal.Sound.openOldest (h : j.Sound) (hring : j.ring ≠ []) : j.openOldest.Sound := by
  obtain ⟨hr, hm, ho, ha, hs, he, _, hage⟩ := Journal.sound_iff.mp h
  have hact := hr.act .openOldest hr.2.2.1
  refine Journal.sound_iff.mpr ⟨hact, fun _ => ⟨rfl, fun os hos => ?_⟩, fun _ => ⟨hring, fun _ => rfl⟩, ha.take (.of_content rfl), hs,
    Journal.act_shaped he (.of_content rfl), Nat.zero_le _, hage⟩
  have hos' : os.length = (offersOf j.moment.events).length := by
    rw [show offersOf j.openOldest.moment.events = offersOf j.moment.events from offersOf_act rfl] at hos
    exact hos
  have hrefill : refill j.openOldest.moment.events os = refill j.moment.events os ++ [.openOldest] :=
    refill_append_action j.moment.events rfl os hos'
  have hcount := (hr.refill_count os).1
  rw [hrefill, Arbiter.replay_append]
  show ∃ r, (Arbiter.take .openOldest (j.moment.start.replay (refill j.moment.events os))).ring.head? = some r ∧
    (Arbiter.take .openOldest (j.moment.start.replay (refill j.moment.events os))).view = r.encode
  cases hlist : (j.moment.start.replay (refill j.moment.events os)).ring with
  | nil =>
    rw [hlist] at hcount
    exact absurd (List.length_eq_zero_iff.mp hcount.symm) hring
  | cons r rest => exact ⟨r, by simp [Arbiter.take, hlist], by simp [Arbiter.take, hlist]⟩

/-- The reader's conditions are not about its latest result. -/
theorem Journal.Sound.setLastAccess (h : j.Sound) (a : AccessResult) : ({ j with lastAccess := a } : Journal).Sound := h

theorem Journal.Sound.open (h : j.Sound) : j.open.Sound := by
  unfold Journal.open
  split
  · exact h.setLastAccess .alreadyOpen
  · exact h.setLastAccess .empty
  · rename_i hr
    exact h.openOldest (by rw [hr]; nofun)

/-! ## RELEASE and DISCARD -/

theorem Content.shaped_loss (v : Time) (x : BitVec 32) : ({ cause := .loss, stamp := v, value32 := some x } : Content).Shaped :=
  ⟨nofun, rfl⟩

theorem Journal.lossRecord_shaped (stamp : Time) (c : Content) (h : j.lossRecord stamp = some c) : c.Shaped := by
  unfold Journal.lossRecord at h
  split at h
  · exact Option.some.inj h ▸ Content.shaped_loss stamp _
  · cases h

/-- A removal that closes the reader: the view may be emptied, the pending losses are admitted, the age timer restarts. -/
theorem Journal.Sound.remove (h : j.Sound) {e : JournalEvent} (he : e.Shaped) (p : Nat) (hp : p ≤ Config.viewCapacity)
    (hmode : (j.act e).mode = j.mode) :
    (({ j.act e with openedMark := false, reader := .closed, viewPointer := p, lastAccess := .ok : Journal
      }).clearLosses.restartAge).Sound := by
  obtain ⟨hr, _, _, ha, hs, hes, _, _, _, ht⟩ := Journal.sound_iff.mp h
  obtain ⟨hl, hn, hloss, hsl, hsn, hreplay⟩ := hr
  have no_losses : j.mode ≠ .stop → j.pendingLoss = 0 := fun hm => by_contra fun h0 => hm (hloss h0).2
  refine Journal.sound_iff.mpr ⟨⟨j.arbiter.take_length e hl, j.arbiter.take_numbered e hn, fun h0 => absurd ?_ h0, hsl, hsn, ?_⟩,
    nofun, nofun, ha.take he, hs, Journal.act_shaped hes he, hp, ?_, nofun, ht⟩
  · show (if (j.act e).mode = .stop then 0 else j.pendingLoss) = 0
    split
    · rfl
    · exact no_losses (hmode ▸ ‹¬ _›)
  · show j.moment.start.replay (j.moment.events ++ [e]) = _
    rw [Arbiter.replay_append, hreplay]
    rfl
  · show (if (j.act e).ring.isEmpty then none else some AgeTimer.start).isSome ↔ (j.act e).ring ≠ []
    cases (j.act e).ring <;> simp

theorem Journal.Sound.release (h : j.Sound) (stamp : Time) : (j.release stamp).Sound := by
  obtain ⟨hr, hm, ho, ha, hs, he, hp, hage⟩ := Journal.sound_iff.mp h
  unfold Journal.release
  split
  · exact h.setLastAccess .notOpen
  · rename_i hmark
    exact Journal.sound_iff.mpr ⟨hr, fun hm' => absurd hm' (by rw [show Journal.openedMark _ = j.openedMark from rfl, hmark]; nofun),
      nofun, ha, hs, he, hp, hage⟩
  · exact h.remove (e := .release _) (Journal.lossRecord_shaped stamp) j.viewPointer hp (Arbiter.remove_mode _ _ _)

theorem Journal.Sound.discard (h : j.Sound) (stamp : Time) : (j.discard stamp).Sound :=
  h.remove (e := .discard _) (Journal.lossRecord_shaped stamp) 0 (Nat.zero_le _) (Arbiter.remove_mode _ _ _)

/-- Every host action keeps the journal sound. -/
theorem Journal.Sound.perform (h : j.Sound) (stamp : Time) (a : HostAction) : (j.perform stamp a).Sound := by
  cases a with
  | openRecord => exact h.open
  | release => exact h.release stamp
  | discard => exact h.discard stamp
  | readOverwrites => exact h

/-! ## The configuration, the age timer and the end of a moment -/

theorem Journal.Sound.configure (h : j.Sound) (d : Halfword) : (j.configure d).Sound := by
  obtain ⟨hr, hm, ho, ha, hs, he, hp, hage⟩ := Journal.sound_iff.mp h
  simp only [Journal.configure]
  split
  · exact h.setLastAccess .cfgRefused
  · rename_i hok
    obtain ⟨h1, h2, hmode⟩ : 1 ≤ (field d 0 7 : BitVec 7).toNat ∧ (field d 0 7 : BitVec 7).toNat ≤ Config.ringCapacity ∧
        (j.ring ≠ [] → JournalMode.ofBit (d.getLsbD 8) = j.mode) := by
      simp only [not_or, not_and, not_lt, ne_eq, not_not] at hok
      exact ⟨hok.1, hok.2.1, fun hne => by_contra fun hc => hne (hok.2.2 hc)⟩
    have full : j.pendingLoss ≠ 0 → j.ring.length = Config.ringCapacity ∧ JournalMode.ofBit (d.getLsbD 8) = .stop :=
      fun h0 => by
        obtain ⟨hlen, hstop⟩ := hr.2.2.1 h0
        have hne : j.ring ≠ [] := fun hnil => by rw [hnil] at hlen; cases hlen
        exact ⟨hlen, (hmode hne).trans hstop⟩
    refine Journal.sound_iff.mpr ⟨hr.act (.setMode _) full, fun hmark => ?_, fun hopen => ?_, ha.take (.of_content rfl), hs,
      Journal.act_shaped he (.of_content rfl), hp, hage.1, hage.2.1, h1, h2⟩
    · obtain ⟨hopen, hview⟩ := hm hmark
      refine ⟨hopen, fun os hos => ?_⟩
      have hos' : os.length = (offersOf j.moment.events).length := hos.trans (congrArg List.length (offersOf_act rfl))
      obtain ⟨r, hhead, hv⟩ := hview os hos'
      rw [show refill (j.act (.setMode (JournalMode.ofBit (d.getLsbD 8)))).moment.events os =
        refill j.moment.events os ++ [.setMode _] from refill_append_action j.moment.events rfl os hos',
        Arbiter.replay_append]
      exact ⟨r, hhead, hv⟩
    · obtain ⟨hne, hstop⟩ := ho hopen
      exact ⟨hne, fun hm' => hstop ((hmode hne).symm.trans hm')⟩

theorem Journal.Sound.setAgeLatch (h : j.Sound) {latch : Bool} (hl : latch = true → j.age.isSome) :
    ({ j with ageLatch := latch } : Journal).Sound := by
  obtain ⟨hr, hm, ho, ha, hs, he, hp, hage, _, ht⟩ := Journal.sound_iff.mp h
  exact Journal.sound_iff.mpr ⟨hr, hm, ho, ha, hs, he, hp, hage, hl, ht⟩

theorem Journal.age_isSome_of_aged {hold : BitVec 16} (h : j.aged hold = true) : j.age.isSome := by
  unfold Journal.aged at h
  cases ha : j.age with
  | none => rw [ha] at h; cases h
  | some a => rfl

theorem Journal.Sound.writeHold (h : j.Sound) (d : Halfword) : (j.writeHold d).Sound := by
  refine h.setAgeLatch (latch := j.ageLatch || j.aged d) fun hl => ?_
  obtain hl | hl := (Bool.or_eq_true _ _).mp hl
  · exact h.2.2.1.2.1 hl
  · exact Journal.age_isSome_of_aged hl

theorem Journal.Sound.tickAge (h : j.Sound) : ({ j with age := j.age.map AgeTimer.tick } : Journal).Sound := by
  obtain ⟨hr, hm, ho, ha, hs, he, hp, hage, hl, ht⟩ := Journal.sound_iff.mp h
  exact Journal.sound_iff.mpr ⟨hr, hm, ho, ha, hs, he, hp, by rw [← hage, Option.isSome_map],
    fun hlatch => by rw [Option.isSome_map]; exact hl hlatch, ht⟩

theorem Journal.Sound.setViewPointer (h : j.Sound) {p : Nat} (hp : p ≤ Config.viewCapacity) :
    ({ j with viewPointer := p } : Journal).Sound := by
  obtain ⟨hr, hm, ho, ha, hs, he, _, hage⟩ := Journal.sound_iff.mp h
  exact Journal.sound_iff.mpr ⟨hr, hm, ho, ha, hs, he, hp, hage⟩

/-- A moment ends: what it made of the journal is the start of the next one (R137). -/
theorem Journal.Sound.endMoment (h : j.Sound) : j.endMoment.Sound := by
  obtain ⟨hr, hm, ho, ha, hs, he, hp, hage⟩ := Journal.sound_iff.mp h
  refine Journal.sound_iff.mpr ⟨⟨hr.1, hr.2.1, hr.2.2.1, hr.1, hr.2.1, rfl⟩, fun hmark => ⟨(hm hmark).1, fun os hos => ?_⟩, ho,
    ha, ha, List.forall_mem_nil _, hp, hage⟩
  obtain ⟨r, hhead, hv⟩ := (hm hmark).2 (offersOf j.moment.events) rfl
  rw [refill_offersOf, hr.replay] at hhead hv
  have hnil : os = [] := List.length_eq_zero_iff.mp hos
  subst hnil
  exact ⟨r, hhead, hv⟩

/-! ## An offer -/

theorem Journal.full_iff (h : j.RingSound) : j.full = true ↔ j.ring.length = Config.ringCapacity := by
  have := h.1
  simp only [Journal.full, decide_eq_true_eq]
  omega

theorem Journal.overwriting_iff (h : j.RingSound) :
    j.overwriting = true ↔ j.ring.length = Config.ringCapacity ∧ j.mode = .overwrite := by
  rw [Journal.overwriting, Bool.and_eq_true, Journal.full_iff h, decide_eq_true_eq]

/-- The mode of the re-arbitrated moment is the journal's. -/
theorem Journal.RingSound.receive_mode (h : j.RingSound) (o : Offer) :
    (j.moment.start.replay (j.moment.receive o).events).mode = j.mode := by
  have := (j.moment.receive_count o).2.2
  rw [h.replay] at this
  exact this

theorem Journal.RingSound.offer (h : j.RingSound) (o : Offer) : (j.offer o).RingSound := by
  have hlen := h.offer_length o
  have h' := h
  obtain ⟨hl, hn, hloss, hsl, hsn, _⟩ := h'
  refine ⟨j.moment.start.replay_length _ hsl, j.moment.start.replay_numbered _ hsn, fun h0 => ?_, hsl, hsn, ?_⟩
  · have full : j.ring.length = Config.ringCapacity ∧ j.mode = .stop := by
      by_cases hf : j.full = true ∧ j.mode = .stop
      · exact ⟨(Journal.full_iff h).mp hf.1, hf.2⟩
      · refine hloss fun hz => h0 ?_
        simp only [Journal.offer]
        rw [if_neg (by simpa using hf), hz]
    exact ⟨by rw [hlen, full.1]; exact Nat.min_eq_left (Nat.le_succ _), full.2⟩
  · simp only [Journal.arbiter, Journal.offer]
    rw [Moment.receive_start, ← h.receive_mode o]

theorem Journal.RingSound.offer_ne_nil (h : j.RingSound) (o : Offer) : (j.offer o).ring ≠ [] := fun hnil => by
  have hlen := h.offer_length o
  rw [hnil, List.length_nil] at hlen
  have : 0 < Config.ringCapacity := by decide
  omega

/-- While an offer overwrites nothing, the oldest record stays the oldest, and the view stays. -/
theorem Arbiter.take_admission_oldest {a : Arbiter} {r : Record} (hhead : a.ring.head? = some r)
    (hover : ¬ (Config.ringCapacity ≤ a.ring.length ∧ a.mode = .overwrite)) (o : Offer) :
    (a.take (.admission o)).ring.head? = some r ∧ (a.take (.admission o)).view = a.view := by
  refine ⟨?_, rfl⟩
  simp only [Arbiter.take]
  obtain ⟨_, e⟩ | ⟨_, _, e⟩ | ⟨hf, hm, _⟩ := admitOne_cases a.mode (a.ring, a.nextSeq) o.content
  · rw [e, List.head?_append, hhead]
    rfl
  · rw [e]
    exact hhead
  · exact absurd ⟨hf, hm⟩ hover

theorem Journal.Sound.offer (h : j.Sound) {o : Offer} (hshape : o.content.Shaped) : (j.offer o).Sound := by
  obtain ⟨hr, hm, ho, _, hs, he, hp, hage, hl, ht⟩ := Journal.sound_iff.mp h
  have shaped := Moment.receive_shaped he hshape
  have ring := hr.offer o
  have harb : (j.offer o).arbiter.Shaped := by
    rw [← ring.replay]
    exact hs.replay shaped
  have oldest : ¬ (j.overwriting || j.ring.isEmpty) = true → j.age.isSome := fun hc => by
    simp only [Bool.or_eq_true, List.isEmpty_iff, not_or] at hc
    exact hage.mpr hc.2
  refine Journal.sound_iff.mpr ⟨ring, fun hmark => ?_, fun hopen => ⟨hr.offer_ne_nil o, fun hstop => ?_⟩, harb, hs, shaped, hp,
    ?_, fun hlatch => ?_, ht⟩
  · obtain ⟨hmark', hover⟩ : j.openedMark = true ∧ j.overwriting = false := by
      simpa [Journal.offer] using hmark
    obtain ⟨hopen, hview⟩ := hm hmark'
    refine ⟨hopen, fun os hos => ?_⟩
    rw [show (j.offer o).moment.events = (j.moment.receive o).events from rfl, Moment.receive_offersOf,
      insertOffer_length] at hos
    obtain ⟨os', p, rfl⟩ : ∃ os' p, os = os' ++ [p] :=
      ⟨os.dropLast, os.getLast (by rintro rfl; cases hos), (List.dropLast_append_getLast _).symm⟩
    have hos' : os'.length = (offersOf j.moment.events).length := by simpa using hos
    have hrefill : refill (j.offer o).moment.events (os' ++ [p]) = refill j.moment.events os' ++ [.admission p] := by
      show refill (refill (j.moment.events ++ [.admission o]) _) (os' ++ [p]) = _
      rw [refill_refill _ _ _ (by simp [offersOf, hos']), refill_append _ _ _ _ hos']
      rfl
    obtain ⟨r, hhead, hv⟩ := hview os' hos'
    have hcount := hr.refill_count os'
    have hover' : ¬ (Config.ringCapacity ≤ (j.moment.start.replay (refill j.moment.events os')).ring.length ∧
        (j.moment.start.replay (refill j.moment.events os')).mode = .overwrite) := fun ⟨hf, hmode⟩ => by
      rw [hcount.1] at hf
      rw [hcount.2.2] at hmode
      rw [(Journal.overwriting_iff hr).mpr ⟨Nat.le_antisymm hr.1 hf, hmode⟩] at hover
      cases hover
    obtain ⟨hhead', hview'⟩ := Arbiter.take_admission_oldest hhead hover' p
    rw [hrefill, Arbiter.replay_append]
    exact ⟨r, hhead', hview'.trans hv⟩
  · have hmark := (ho hopen).2 hstop
    have hstop' : j.mode = .stop := hstop
    simp [Journal.offer, hmark, Journal.overwriting, hstop']
  · refine iff_of_true ?_ (hr.offer_ne_nil o)
    show Option.isSome (if (j.overwriting || j.ring.isEmpty) = true then some AgeTimer.start else j.age) = true
    split
    · rfl
    · exact oldest ‹_›
  · show Option.isSome (if (j.overwriting || j.ring.isEmpty) = true then some AgeTimer.start else j.age) = true
    split
    · rfl
    · exact oldest ‹_›

end

end Sys2Proof.Machine
end

section
/-! Every step keeps the capture journal sound (R134 to R157): the records of every block carry the groups of their causes, and
every event reaches the journal by offers, reader actions and its own writes alone. -/
namespace Sys2Proof.Machine

/-! ## The records that the blocks offer -/

section
variable (s : State) (n : AxisNo)

theorem Content.shaped_wrap (v : Time) (p : BitVec 32) (x : BitVec 16) :
    ({ cause := .wrap, axis := some n, stamp := v, position := some p, aux := some x } : Content).Shaped := ⟨nofun, rfl⟩

theorem Content.shaped_sync (v : Time) (w : Option Time) :
    ({ cause := .sync, stamp := v, value48 := w } : Content).Shaped := ⟨nofun, rfl⟩

theorem Content.shaped_flushed (v : Time) (x : BitVec 32) :
    ({ cause := .flushed, axis := some n, stamp := v, value32 := some x } : Content).Shaped := ⟨nofun, rfl⟩

theorem Content.shaped_homed (v : Time) (p : BitVec 32) (r : Option (BitVec 16)) (x : BitVec 32) :
    ({ cause := .homed, axis := some n, stamp := v, position := some p, revolution := r, value32 := some x } : Content).Shaped :=
  ⟨fun _ => rfl, rfl⟩

theorem State.errorRecord_shaped {cause : Cause} (hc : cause = .phaseErr ∨ cause = .fault) (v : BitVec 32) :
    (s.errorRecord cause n v).Shaped := by
  obtain rfl | rfl := hc
  · exact ⟨fun _ => rfl, rfl⟩
  · exact ⟨fun _ => rfl, rfl⟩

theorem State.indexRecord_shaped : (s.indexRecord n).Shaped := ⟨fun _ => rfl, rfl⟩

theorem State.compareRecord_shaped (v : Time) (k : Slot) (r : BitVec 16) (g : Option Gang) :
    (s.entryRecord .compare v n k r g).Shaped := ⟨fun _ => rfl, rfl⟩

theorem State.expiredRecord_shaped (v : Time) (k : Slot) (r : BitVec 16) :
    (s.entryRecord .expired v n k r none).Shaped := ⟨fun _ => rfl, rfl⟩

theorem State.triggerRecord_shaped (n : TriggerNo) : (s.triggerRecord n).Shaped := ⟨nofun, rfl⟩

end

/-! ## The events -/

/-- The journal is sound. -/
def State.JournalSound (s : State) : Prop := s.journal.Sound

section
variable {s t : State}

theorem State.JournalSound.of_eq (h : s.JournalSound) (e : t.journal = s.journal) : t.JournalSound := by
  unfold State.JournalSound
  rw [e]
  exact h

theorem State.JournalSound.offer (h : s.JournalSound) {c : Content} (hc : c.Shaped) (src : Source) :
    (s.offer src c).JournalSound := Journal.Sound.offer h (o := ⟨src, c⟩) hc

theorem State.JournalSound.offerIf (h : s.JournalSound) {c : Content} (hc : c.Shaped) (b : Bool) (src : Source) :
    (s.offerIf b src c).JournalSound := by
  unfold State.offerIf
  split
  · exact h.offer hc src
  · exact h

theorem State.JournalSound.perform (h : s.JournalSound) (a : Option HostAction) : (s.perform a).JournalSound := by
  cases a with
  | none => exact h
  | some a => exact Journal.Sound.perform h s.now a

theorem State.JournalSound.departHead (h : s.JournalSound) (n : AxisNo) : (s.departHead n).JournalSound :=
  h.of_eq (s.departHead_journal n)

theorem State.JournalSound.fire (h : s.JournalSound) (n : AxisNo) (k : Slot) : (s.fire n k).JournalSound := by
  have out : (s.fireOutput n k).JournalSound := by
    refine State.JournalSound.offerIf (h.of_eq ?_) (s.compareRecord_shaped n _ k _ _) _ _
    rw [s.sendOutput_frame]
  by_cases hl : (s.entry k).remaining - 1 = 0
  · rw [State.fire_of_last hl]
    exact (State.JournalSound.of_eq (t := (s.fireOutput n k).setEntry k _) out rfl).departHead n
  · rw [State.fire_of_more hl]
    exact out

theorem State.JournalSound.arrival (h : s.JournalSound) (n : AxisNo) : (s.arrival n).JournalSound := by
  obtain e | ⟨_, _, _, _, _, _, e⟩ := s.arrival_cases n <;> rw [e]
  · exact h
  · exact h.fire n _

theorem State.JournalSound.countStep (h : s.JournalSound) (n : AxisNo) (a : Option HostAction) (d : Direction) :
    (s.countStep n a d).JournalSound :=
  ((State.JournalSound.offerIf (s := s.setAxis n ((s.axis n).move d)) h (Content.shaped_wrap n _ _ _) _ _).perform a).arrival n

theorem State.JournalSound.phaseError (h : s.JournalSound) (n : AxisNo) (a : Option HostAction) :
    (s.phaseError n a).JournalSound := by
  have counted := fun y => (State.JournalSound.offerIf (s := s.setAxis n y) h
    (s.errorRecord_shaped n (.inl rfl) (y.errorTotal.setWidth 32)) (s.axis n).config.recordPhaseErrors (.counter n)).perform a
  simp only [State.phaseError]
  split
  · exact (counted _).offer (s.errorRecord_shaped n (.inr rfl) _) _
  · exact counted _

theorem State.JournalSound.takeEvaluation (h : s.JournalSound) (e : AxisEvent) : (s.takeEvaluation e).JournalSound := by
  obtain ⟨_, he⟩ | ⟨_, he⟩ := s.takeEvaluation_cases e <;> rw [he]
  · exact h.perform _
  · have pair : (s.takePair e.axis).JournalSound := h
    obtain ⟨d, _, he⟩ | ⟨_, he⟩ | ⟨_, he⟩ := s.evaluate_cases e <;> rw [he]
    · exact pair.countStep _ _ d
    · exact pair.phaseError _ _
    · exact pair.perform _

theorem State.JournalSound.homingLoad (h : s.JournalSound) (n : AxisNo) : (s.homingLoad n).JournalSound :=
  State.JournalSound.offer (s := s.setAxis n _) h (Content.shaped_homed n _ _ _ _) _

theorem State.JournalSound.takeSync (h : s.JournalSound) : s.takeSync.JournalSound := by
  simp only [State.takeSync]
  split
  · exact State.JournalSound.offer (s := s.loadTime _) (h.of_eq (by rw [State.loadTime_eq])) (Content.shaped_sync _ _) _
  · exact h.offerIf (Content.shaped_sync _ _) _ _

theorem State.JournalSound.takeZChange (h : s.JournalSound) (e : AxisEvent) : (s.takeZChange e).JournalSound := by
  have index : ∀ t : State, t.JournalSound → (t.takeIndex e.axis e.between).JournalSound := fun t ht => by
    have recorded := (ht.offerIf (t.indexRecord_shaped e.axis) (t.axis e.axis).config.recordIndex
      (.indexUnit e.axis)).perform e.between
    simp only [State.takeIndex]
    split
    · exact recorded.homingLoad _
    · exact recorded
  simp only [State.takeZChange]
  split
  · split
    · exact index _ h
    · exact State.JournalSound.perform (s := State.setAxis _ _ s) h _
  · exact h.perform _

theorem State.JournalSound.takeLevelChange (h : s.JournalSound) (n : TriggerNo) : (s.takeLevelChange n).JournalSound := by
  have ready : ∀ t : State, t.JournalSound → (t.readyEdge n).JournalSound := fun t ht => by
    have recorded := ht.offerIf (t.triggerRecord_shaped n) (t.trigger n).snap (.trigger n)
    simp only [State.readyEdge]
    split <;> exact recorded
  simp only [State.takeLevelChange]
  split
  · split
    · simp only [State.takeEdge]
      split
      · exact ready _ h
      · exact h
    · exact h
  · exact h

theorem State.JournalSound.takeSyncChange (h : s.JournalSound) : s.takeSyncChange.JournalSound := by
  simp only [State.takeSyncChange]
  split
  · split
    · exact State.JournalSound.takeSync (s := s.setTimebase _) h
    · exact h
  · exact h

theorem State.JournalSound.compareDeadline (h : s.JournalSound) (n : AxisNo) : (s.compareDeadline n).JournalSound := by
  have expire : ∀ (t : State) k, t.JournalSound → (t.expire n k).JournalSound := fun t k ht =>
    State.JournalSound.departHead (State.JournalSound.offer ht (t.expiredRecord_shaped n _ k _) _) n
  unfold State.compareDeadline
  split
  · exact h
  · split
    · exact expire _ _ h
    · exact h

theorem Journal.reset_sound : Journal.reset.Sound :=
  Journal.sound_iff.mpr ⟨⟨Nat.zero_le _, fun _ h => absurd h (Nat.not_lt_zero _), fun h => absurd rfl h, Nat.zero_le _,
    fun _ h => absurd h (Nat.not_lt_zero _), rfl⟩, nofun, nofun, ⟨List.forall_mem_nil _, Nat.zero_le _⟩,
    ⟨List.forall_mem_nil _, Nat.zero_le _⟩, List.forall_mem_nil _, Nat.zero_le _, by unfold Journal.AgeSound; decide⟩

theorem State.JournalSound.reset (e : s.journal = Journal.reset) : s.JournalSound := by
  unfold State.JournalSound
  rw [e]
  exact Journal.reset_sound

theorem State.JournalSound.owner (h : s.JournalSound) (k : Command) (u : UnitNo) : (k.owner u s).JournalSound := by
  by_cases hk : k = .chipReset
  · subst hk
    exact State.JournalSound.reset rfl
  · obtain e | ⟨o, ho, e⟩ := (k.owner_reach u s hk).journal
    · exact h.of_eq e
    · unfold State.JournalSound
      rw [e]
      exact Journal.Sound.offer h ho

theorem State.JournalSound.write (h : s.JournalSound) (l : Location) (d : Halfword) : (Window.write l d s).JournalSound := by
  unfold State.JournalSound
  obtain e | ⟨a, e⟩ | e | e | ⟨p, hp, e⟩ := (Window.write_reach l d s).journal <;> rw [e]
  · exact h
  · exact Journal.Sound.perform h _ a
  · exact Journal.Sound.configure h d
  · exact Journal.Sound.writeHold h d
  · exact Journal.Sound.setViewPointer h hp

theorem State.JournalSound.read (h : s.JournalSound) (l : Location) : (Window.read l s).JournalSound := by
  obtain ⟨v, e⟩ | ⟨n, e⟩ | e | ⟨i, e⟩ | e | e | e | e := Window.read_cases s l <;> rw [e]
  case inr.inr.inr.inr.inr.inr.inl => exact h.perform _
  case inr.inr.inr.inr.inr.inr.inr => exact Journal.Sound.setViewPointer h (Nat.min_le_right _ _)
  all_goals exact h

end

theorem journalSound_kept : Kept State.JournalSound where
  evaluation e _ h := h.takeEvaluation e
  zChange e _ h := h.takeZChange e
  levelChange n _ h := h.takeLevelChange n
  syncChange _ h := h.takeSyncChange
  holdoff _ _ h _ := h
  width _ _ h _ := h
  gap _ _ h _ := h
  latch _ h ha := Journal.Sound.setAgeLatch h fun _ => Journal.age_isSome_of_aged ha
  count _ h := Journal.Sound.tickAge h
  advance _ h := Journal.Sound.endMoment h
  sample f s h := h.of_eq (by rw [s.takeSample_frame f])
  pinReset _ := .reset rfl
  release _ h := h
  comparison n _ h := h.compareDeadline n
  appendStep _ _ _ _ h _ _ _ := h
  appendCompletion _ _ _ _ h _ _ := h
  flushStep s _ h _ := h.of_eq (by rw [s.returnHead_frame])
  flushCompletion s total h _ _ :=
    State.JournalSound.offer (s := s.setSchedule _ _) h (Content.shaped_flushed _ _ _) _
  owner k u _ h _ := h.owner k u
  issue _ _ h _ := h
  write l d _ h := h.write l d
  read l _ h := h.read l

/-- Settles O60: a journal is reached by offers, by reader actions and by its own writes, and each keeps it sound. -/
theorem stepsKeepTheJournalSound : Obligations.StepsKeepTheJournalSound := fun _ _ hs h =>
  journalSound_kept.step (fun _ _ h => h) h hs

/-! ## The reset state -/

theorem State.reset_blank : State.reset.Blank :=
  ⟨rfl, fun n => by simp [State.reset, State.schedule], fun n => by simp [State.reset, State.axis, Axis.reset], rfl⟩

/-- The reset state is that of RESETn asserted and then released (R23), so that it has what every event keeps. -/
theorem Kept.at_reset {P : State → Prop} (k : Kept P) : P State.reset := k.release _ (k.pinReset State.reset.pending)

/-- Settles O56. -/
theorem resetMeetsEveryInvariant : Obligations.ResetMeetsEveryInvariant :=
  ⟨State.reset_blank.poolSound, State.reset_blank.quotasKept, State.reset_blank.entriesValid,
    State.reset.unitsSound_iff.mpr ⟨axesSound_kept.at_reset, linesSound_kept.at_reset, triggersSound_kept.at_reset,
      trimSound_kept.at_reset, drainSound_kept.at_reset, interruptsSound_kept.at_reset⟩, journalSound_kept.at_reset⟩

end Sys2Proof.Machine
end

section
/-! The resets of the whole part, the input filters and the decode tables (R1 to R6, R23, R108, R127, R133, R171, R173). -/
namespace Sys2Proof.Machine

/-! ## Resets -/

theorem State.reset_axis (n : AxisNo) : State.reset.axis n = Axis.reset := by simp [State.reset, State.axis]

theorem State.reset_schedule (n : AxisNo) : State.reset.schedule n = Schedule.reset := by
  simp [State.reset, State.schedule]

theorem State.reset_line (l : LineNo) : State.reset.line l = Line.reset := by simp [State.reset, State.line]

theorem State.reset_trigger (n : TriggerNo) : State.reset.trigger n = Trigger.reset := by
  simp [State.reset, State.trigger]

/-- The reset value of every block after PIN_RESET (R173). -/
theorem exec_pinReset (s : State) : ∃ t, exec .pinReset s = .next t ∧ t.inReset = true ∧ t.counted = false ∧
    t.pending = s.pending ∧ (∀ n, t.axis n = .reset) ∧ (∀ n, t.schedule n = .reset) ∧ (∀ l, t.line l = .reset) ∧
    (∀ n, t.trigger n = .reset) ∧ t.pool = .reset ∧ t.timebase = .reset ∧ t.journal = .reset ∧ t.engine = .reset ∧
    t.interrupts = .reset ∧ t.bus = .reset :=
  ⟨_, rfl, rfl, rfl, rfl, State.reset_axis, State.reset_schedule, State.reset_line, State.reset_trigger, rfl, rfl, rfl,
    rfl, rfl, rfl⟩

/-- Settles O3. -/
theorem pinResetGivesEveryResetValue : Obligations.PinResetGivesEveryResetValue := by
  refine ⟨fun _ => rfl, fun c s h hp hr => exec_of_reset c h (not_or.mpr ⟨hp, hr⟩), fun s => ?_⟩
  obtain ⟨t, ht, hr, hc, hq, axis, schedule, line, trigger, pool, timebase, journal, engine, interrupts, bus⟩ := exec_pinReset s
  have shadows : ∀ n : AxisNo, BusInterface.reset.positionShadows[n] = { position := 0, revolution := 0 } := by decide
  have irqn : t.irqnLow = false := by simp [State.irqnLow, interrupts, Interrupts.reset]
  have copies : (∀ k : Fin 4, Engine.reset.args[k] = 0 ∧ Engine.reset.argCopy[k] = 0) := by decide
  have staged : ∀ k : Fin 8, Engine.reset.staged[k] = StagedEntry.reset := by decide
  have record : ∀ k : Fin 8, Engine.reset.axisStaging.read k = if k = 6 then 32 else 0 := by decide
  refine ⟨t, ht, hr, hc, hq, fun n => ?_, ?_, line, fun n => ?_, ?_⟩
  · rw [axis n, schedule n, bus, shadows n]
    exact ⟨rfl, rfl, rfl, rfl, rfl, rfl, rfl, rfl, rfl, rfl, rfl, rfl, rfl, rfl, rfl, rfl, rfl, rfl, rfl⟩
  · rw [pool]; rfl
  · rw [trigger n]
    exact ⟨rfl, rfl, rfl, rfl, rfl, rfl, rfl, rfl, rfl, rfl, rfl, rfl, rfl, rfl⟩
  · rw [irqn, timebase, journal, engine, interrupts, bus]
    exact ⟨rfl, rfl, rfl, rfl, rfl, rfl, rfl, rfl, rfl, rfl, rfl, rfl, rfl, rfl, rfl, rfl, rfl, rfl, rfl, rfl, rfl, rfl, rfl,
      rfl, rfl, rfl, rfl, rfl, rfl, rfl, rfl, rfl, rfl, rfl, rfl, rfl, copies, staged, record, rfl, rfl, rfl, rfl⟩

/-- The whole part after CHIP_RESET, with the halfword that is still driven and the filtered levels (R171). -/
theorem State.resetChip_eq {s : State} {u : UnitNo} (hr : s.inReset = false) (ho : s.engine.opcode = 0x7F)
    (hu : s.engine.unit = u) : s.resetChip = {
      State.reset with
      axes := s.axes.map fun x => { Axis.reset with
        filterA := { x.filterA with run := 0 }, filterB := { x.filterB with run := 0 },
        filterZ := { x.filterZ with run := 0 } }
      triggers := s.triggers.map fun x => { Trigger.reset with filter := { x.filter with run := 0 } }
      timebase := { Timebase.reset with
        filter := { s.timebase.filter with run := 0 }, sampleDue := s.timebase.sampleDue }
      engine := { Engine.reset with opcode := 0x7F, unit := u, result := .ok }
      interrupts := { flags := 1, enables := 0 }
      bus := { BusInterface.reset with dataOut := s.bus.dataOut }
      counted := s.counted
      pending := s.pending } := by
  simp only [State.resetChip, State.complete, hr, ho, hu, eachUnit_eq_map]
  rfl

/-- Settles O4: from IDLE the row is the write of its command word and then the owner's event, which alone acts. -/
theorem chipResetTakesTheWholePart : Obligations.ChipResetTakesTheWholePart := by
  intro u s
  refine ⟨?_, fun hr hp hw => (commandDuringExecutionIsAnOverrun s hr hp).2 .chipReset u hw⟩
  have carried : ∀ {t : State}, t.Waits .chipReset u → exec (.chipReset u) t = .next t.resetChip := fun hw => hw.exec_row
  rintro (hi | hw)
  · obtain ⟨t, ht, hrow, _⟩ := commandRowIsItsWriteAndItsEvent .chipReset u s hi
    obtain ⟨hw, he⟩ := hrow u.isLt
    have issued : t = s.setEngine (s.engine.issue (commandWord .chipReset u)) := by
      rw [exec_commandWrite_of_running _ hi.1] at ht
      exact (Host.Outcome.next.inj ht).symm.trans (State.commandWrite_passes _ hi.2
        (issue_commandWord_opcode _ .chipReset u).symm (by rw [issue_commandWord_unit]; exact u.isLt))
    have owner := carried hw
    rw [State.resetChip_eq hw.1 hw.2.2.1 hw.2.2.2, issued] at owner
    rw [issued] at he
    exact Eq.trans he owner
  · rw [carried hw, State.resetChip_eq hw.1 hw.2.2.1 hw.2.2.2]

/-! ## Filters -/

section
variable {L : Nat} {f : Filter}

theorem Filter.sample_same (hf : f.fresh = false) : f.sample L f.level = { f with run := 0 } := by
  simp [Filter.sample, hf]

/-- A sample point that differs, before the filter length plus one of them is reached. -/
theorem Filter.sample_differing (hf : f.fresh = false) (hr : f.run < L) :
    f.sample L (!f.level) = { f with run := f.run + 1 } := by
  have : ¬ L + 1 ≤ f.run + 1 := by omega
  simp [Filter.sample, hf, this]

/-- The sample point that is one more than the filter length takes the differing value. -/
theorem Filter.sample_taken (hf : f.fresh = false) (hr : f.run = L) :
    f.sample L (!f.level) = { f with level := !f.level, run := 0 } := by
  simp [Filter.sample, hf, hr]

theorem Filter.sample_iterate (hf : f.fresh = false) (k : Nat) (hk : k + f.run ≤ L) :
    (Filter.sample L (!f.level))^[k] f = { f with run := f.run + k } := by
  induction k with
  | zero => rfl
  | succ k ih =>
    rw [Function.iterate_succ_apply', ih (by omega)]
    exact Filter.sample_differing (f := { f with run := f.run + k }) hf (by show f.run + k < L; omega)

theorem Filter.sample_fresh (raw : Bool) (hf : f.fresh = true) :
    f.sample L raw = { level := raw, run := 0, fresh := false } := by
  simp [Filter.sample, hf]

theorem Filter.changes_eq (raw : Bool) : f.changes L raw = (!f.fresh && ((f.sample L raw).level != f.level)) := by
  simp [Filter.changes, bne, Bool.beq_eq_decide_eq]

end

/-- A sample point that is due is taken on the lines as they are. -/
theorem exec_filterSamplePoint_of_due {s : State} (h : s.inReset = false) {i : FilterInput} (hd : s.sampleDue i = true) :
    exec (.filterSamplePoint i) s = .next (s.takeSample i) := by
  rw [exec_of_running (.filterSamplePoint i) h nofun]
  exact congrArg _ (if_pos hd)

/-- Settles O10. -/
theorem samplePointFeedsTheFilters : Obligations.SamplePointFeedsTheFilters := by
  refine ⟨fun L f hf hr => ⟨Filter.sample_same hf, Filter.sample_iterate hf, ?_⟩, fun L raw f => Filter.sample_fresh raw,
    fun s h => ⟨fun n a b z hd => ?_, fun n raw => ⟨fun hd => ?_, fun hf hc => ?_⟩, fun raw hd => ?_⟩⟩
  · rw [show L + 1 - f.run = (L - f.run) + 1 by omega, Function.iterate_succ_apply',
      Filter.sample_iterate hf _ (by omega)]
    exact Filter.sample_taken (f := { f with run := _ }) hf (by show f.run + (L - f.run) = L; omega)
  · rw [exec_filterSamplePoint_of_due (i := .axis n a b z) h hd]
    simp only [State.takeSample, State.setAxis, Axis.sample, Filter.changes_eq]
    rfl
  · rw [exec_filterSamplePoint_of_due (i := .trigger n raw) h hd]
    simp only [State.takeSample, State.setTrigger, Trigger.sample, Filter.changes_eq]
    rfl
  · simp only [Trigger.level, hc, Bool.bne_false]
    cases (s.trigger n).filter.level <;> cases ((s.trigger n).filter.sample _ raw).level <;> decide
  · rw [exec_filterSamplePoint_of_due (i := .sync raw) h hd]
    simp only [State.takeSample, State.setTimebase, Timebase.sample, Filter.changes_eq]
    rfl

/-! ## The decode tables -/

/-- A statement about every pair of lines is one about its four values. -/
theorem LinePair.forall_iff (P : LinePair → Prop) : (∀ p, P p) ↔ ∀ a b, P { a := a, b := b } :=
  ⟨fun h _ _ => h _, fun h p => h p.a p.b⟩

/-- Settles O11: the tables are finite. -/
theorem decodeModesCountTheirTables : Obligations.DecodeModesCountTheirTables := by
  unfold Obligations.DecodeModesCountTheirTables
  simp only [LinePair.forall_iff]
  decide

end Sys2Proof.Machine
end

section
/-! Fields and halves of a halfword, and the writes to the two staging areas (R32, R33, R170, R190, R191). -/
namespace Sys2Proof.Machine

/-! ## Fields and halves -/

section
variable (d e : Halfword)

/-- A field put back into its place is the halfword under the mask of the field. -/
theorem place_field (lo w : Nat) : place (field d lo w) lo = d &&& place (BitVec.allOnes w) lo := by
  ext i hi
  simp only [place, field, BitVec.getElem_shiftLeft, BitVec.getElem_and]
  by_cases hlo : i < lo
  · simp [hlo]
  · have h16 : i - lo < 16 := by omega
    simp only [hlo, decide_false, Bool.not_false, Bool.true_and, BitVec.getElem_setWidth, BitVec.getLsbD_extractLsb',
      BitVec.getLsbD_allOnes, show lo + (i - lo) = i by omega, BitVec.getLsbD_eq_getElem hi, Bool.and_comm]

theorem placeBit_getLsbD (lo : Nat) : placeBit (d.getLsbD lo) lo = d &&& placeBit true lo := by
  have h := place_field d lo 1
  have : field d lo 1 = BitVec.ofBool (d.getLsbD lo) := by
    ext i hi
    obtain rfl : i = 0 := by omega
    simp [field]
  rw [this] at h
  exact h

end

@[simp] theorem halfOf_withLow_low (x : BitVec 32) (d : Halfword) : halfOf (withLow x d) 0 = d := BitVec.extractLsb'_append_eq_right

@[simp] theorem halfOf_withLow_high (x : BitVec 32) (d : Halfword) : halfOf (withLow x d) 1 = halfOf x 1 :=
  BitVec.extractLsb'_append_eq_left

@[simp] theorem halfOf_withHigh_low (x : BitVec 32) (d : Halfword) : halfOf (withHigh x d) 0 = halfOf x 0 :=
  BitVec.extractLsb'_append_eq_right

@[simp] theorem halfOf_withHigh_high (x : BitVec 32) (d : Halfword) : halfOf (withHigh x d) 1 = d := BitVec.extractLsb'_append_eq_left

section
variable (a b c : Halfword)

@[simp] theorem halfOf_word48_zero : halfOf (word48 a b c) 0 = a := BitVec.extractLsb'_append_eq_right

@[simp] theorem halfOf_word48_one : halfOf (word48 a b c) 1 = b :=
  (BitVec.extractLsb'_append_eq_of_le (xhi := c ++ b) (xlo := a) (Nat.le_refl 16)).trans BitVec.extractLsb'_append_eq_right

@[simp] theorem halfOf_word48_two : halfOf (word48 a b c) 2 = c :=
  (BitVec.extractLsb'_append_eq_of_le (xhi := c ++ b) (xlo := a) (by decide : 16 ≤ 32)).trans
    BitVec.extractLsb'_append_eq_left

end

/-! ## The staged entry -/

section
variable (k k' : Fin 10) (d : Halfword) (e : StagedEntry)

/-- A location whose halfword is stored whole reads it back; the two locations of codes and the tag read back the bits that
their fields name (R190). -/
theorem StagedEntry.read_write : (e.write k d).read k = d &&& (match k with
    | 2 => 0x87FF | 3 => 0x00FF | _ => 0xFFFF) := by
  have whole : d = d &&& 0xFFFF := BitVec.and_allOnes.symm
  have codes : d &&& 0x87FF = place (field d 0 2) 0 ||| place (field d 2 3) 2 ||| place (field d 5 4) 5 |||
      place (field d 9 2) 9 ||| placeBit (d.getLsbD 15) 15 := by
    simp only [place_field, placeBit_getLsbD, ← BitVec.and_or_distrib_left]
    rfl
  have tag : d &&& 0x00FF = place (field d 0 8) 0 := (place_field d 0 8).symm
  match k with
  | 2 => exact codes.symm
  | 3 => exact tag.symm
  | 4 => exact whole
  | 0 | 1 | 5 | 6 | 7 | 8 | 9 => exact Eq.trans (by simp [StagedEntry.write, StagedEntry.read]) whole

theorem StagedEntry.read_write_of_ne (h : k' ≠ k) : (e.write k d).read k' = e.read k' := by
  fin_cases k <;> fin_cases k' <;> simp_all [StagedEntry.write, StagedEntry.read]

end

theorem word48_append_high (d : Halfword) (x : Time) : word48 d (halfOf x 1) (halfOf x 2) = x.extractLsb' 16 32 ++ d := by
  have high : halfOf x 2 ++ halfOf x 1 = x.extractLsb' 16 32 :=
    BitVec.extractLsb'_append_extractLsb'_eq_extractLsb' (start₁ := 16) (len₁ := 16) rfl
  rw [← high]
  rfl

theorem word48_append_low (d : Halfword) (x : Time) : word48 (halfOf x 0) (halfOf x 1) d = d ++ x.extractLsb' 0 32 := by
  have low : halfOf x 1 ++ halfOf x 0 = x.extractLsb' 0 32 :=
    BitVec.extractLsb'_append_extractLsb'_eq_extractLsb' (start₁ := 0) (len₁ := 16) rfl
  rw [← low]
  exact BitVec.append_assoc

/-! ## The axis configuration staging record -/

section
variable (k k' : Fin 8) (d : Halfword) (r : AxisStaging)

/-- The bits of a halfword of the record that its fields name (R191). -/
theorem AxisStaging.read_write : (r.write k d).read k = d &&& (match k with
    | 0 => 0x3FFF | 1 => 0x7FFF | 6 => 0x00FF | 7 => 0x0073 | _ => 0xFFFF) := by
  have whole : d = d &&& 0xFFFF := BitVec.and_allOnes.symm
  match k with
  | 0 | 1 | 6 | 7 =>
    simp only [AxisStaging.write, AxisStaging.read, place_field, placeBit_getLsbD, ← BitVec.and_or_distrib_left]
    rfl
  | 2 | 3 | 4 | 5 => exact Eq.trans (by simp [AxisStaging.write, AxisStaging.read]) whole

theorem AxisStaging.read_write_of_ne (h : k' ≠ k) : (r.write k d).read k' = r.read k' := by
  fin_cases k <;> fin_cases k' <;> simp_all [AxisStaging.write, AxisStaging.read]

end

/-! ## The writes -/

theorem Engine.appending_iff (e : Engine) : e.appending = true ↔ ∃ p, e.phase = .appending p := by
  unfold Engine.appending
  cases e.phase <;> simp

theorem Engine.configuring_iff (e : Engine) : e.configuring = true ↔ e.phase ≠ .idle ∧ e.opcode = 0x10 := by
  rw [Engine.configuring, Bool.and_eq_true, decide_eq_true_eq, decide_eq_true_eq]
  rfl

section
variable {s : State} (h : s.inReset = false)
include h

theorem exec_stageSelWrite (d : Halfword) : exec (.stageSelWrite d) s = .next (s.writeStageSel d) :=
  exec_of_running (.stageSelWrite d) h nofun

theorem exec_stagedEntryWrite (k : Fin 10) (d : Halfword) : exec (.stagedEntryWrite k d) s = .next (s.writeStaged k d) :=
  exec_of_running (.stagedEntryWrite k d) h nofun

theorem exec_axisStagingWrite (k : Fin 8) (d : Halfword) :
    exec (.axisStagingWrite k d) s = .next (s.writeAxisStaging k d) := exec_of_running (.axisStagingWrite k d) h nofun

end

/-- Settles O9. -/
theorem stagingWritesAreStoredOrLocked : Obligations.StagingWritesAreStoredOrLocked := by
  intro s h
  refine ⟨fun hp d => ?_, fun hp d k => ?_, fun d k => ?_⟩
  · have unlocked : ¬ s.engine.appending = true := fun ha => by
      obtain ⟨p, hp'⟩ := s.engine.appending_iff.mp ha
      exact hp p hp'
    refine ⟨fun hd => ?_, fun hd => ?_, fun k => ?_⟩
    · have : ¬ 7 < d.toNat := by omega
      have sel : Fin.ofNat 8 d.toNat = ⟨d.toNat, hd⟩ := Fin.ext (Nat.mod_eq_of_lt hd)
      rw [exec_stageSelWrite h, State.writeStageSel, if_neg (by simp [unlocked, this]), sel]
      rfl
    · rw [exec_stageSelWrite h, State.writeStageSel, if_pos (.inr hd)]
    · intro g e
      have he : e = g.write k d := by
        unfold e
        match k with
        | 7 => exact congrArg (fun x : Time => { g with deadline := x }) (word48_append_high d g.deadline).symm
        | 9 => exact congrArg (fun x : Time => { g with deadline := x }) (word48_append_low d g.deadline).symm
        | 0 | 1 | 2 | 3 | 4 | 5 | 6 | 8 => rfl
      have hread := g.read_write k d
      rw [he]
      refine ⟨?_, fun h2 h3 => ?_, ?_, ?_, fun k' hk => StagedEntry.read_write_of_ne k k' d g hk⟩
      · rw [exec_stagedEntryWrite h, State.writeStaged, if_neg unlocked]
        rfl
      · refine hread.trans ?_
        match k with
        | 2 => exact absurd rfl h2
        | 3 => exact absurd rfl h3
        | 0 | 1 | 4 | 5 | 6 | 7 | 8 | 9 => exact BitVec.and_allOnes
      · rintro rfl; exact hread
      · rintro rfl; exact hread
  · have locked := s.engine.appending_iff.mpr hp
    rw [exec_stageSelWrite h, exec_stagedEntryWrite h, State.writeStageSel, State.writeStaged, if_pos locked,
      if_pos (.inl locked)]
    exact ⟨rfl, rfl⟩
  · intro g r
    have hr : r = g.write k d := by fin_cases k <;> rfl
    have hread := g.read_write k d
    rw [hr, exec_axisStagingWrite h, State.writeAxisStaging]
    refine ⟨fun hp => ?_, ⟨?_, fun k' hk => AxisStaging.read_write_of_ne k k' d g hk⟩, fun hp ho => ?_⟩
    · rw [if_neg (by rw [Engine.configuring_iff]; exact fun ⟨hp', ho⟩ => hp.elim hp' (absurd ho))]
      rfl
    · rw [hread]; fin_cases k <;> rfl
    · rw [if_pos (s.engine.configuring_iff.mpr ⟨hp, ho⟩)]

end Sys2Proof.Machine
end

section
/-! Evaluations without a step, and phase errors (R3, R11 to R13). -/
namespace Sys2Proof.Machine

/-! ## An offer that the configuration asks for -/

section
variable (s : State) (b : Bool) (src : Source) (c : Content)

theorem State.offerIf_journal :
    (s.offerIf b src c).journal = if b then s.journal.offer { source := src, content := c } else s.journal := by
  cases b <;> rfl

theorem State.offerIf_interrupts :
    (s.offerIf b src c).interrupts = s.interrupts.raiseIf (b && s.journal.full) .jrnlLoss := by
  cases b <;> rfl

theorem Journal.full_eq (j : Journal) : j.full = decide (64 ≤ j.ring.length) := rfl

end

/-! ## Evaluations -/

section
variable {s : State}

theorem exec_decoderEvaluation (h : s.inReset = false) (e : AxisEvent) :
    exec (.decoderEvaluation e) s = .next (s.takeEvaluation e) := exec_of_running (.decoderEvaluation e) h nofun

theorem State.takeEvaluation_of_not (e : AxisEvent)
    (h : (s.axis e.axis).state ≠ .counting ∨ (s.axis e.axis).filtered = (s.axis e.axis).phase) :
    s.takeEvaluation e = s.perform e.between := by
  refine if_neg fun ht => ?_
  obtain ⟨hc, hf⟩ := (Axis.toEvaluate_iff _).mp ht
  exact h.elim (· hc) hf

theorem State.takeEvaluation_of_counting (e : AxisEvent) (hc : (s.axis e.axis).state = .counting)
    (hf : (s.axis e.axis).filtered ≠ (s.axis e.axis).phase) : s.takeEvaluation e = s.evaluate e :=
  if_pos ((Axis.toEvaluate_iff _).mpr ⟨hc, hf⟩)

theorem State.takePair_axis_self (n : AxisNo) :
    (s.takePair n).axis n = { s.axis n with phase := (s.axis n).filtered } := s.setAxis_axis_self n _

end

/-- Settles O12. -/
theorem evaluationWithoutAStepTakesThePairAlone : Obligations.EvaluationWithoutAStepTakesThePairAlone := by
  refine fun n h s hr => ⟨fun hn => ?_, fun hc hf hd => ?_⟩
  · rw [exec_decoderEvaluation hr, State.takeEvaluation_of_not _ hn]
  · rw [exec_decoderEvaluation hr, State.takeEvaluation_of_counting _ hc hf, s.evaluate_eq]
    obtain hd | hd := hd <;> (rw [show Axis.outcome _ = _ from hd]; rfl)

/-! ## Phase errors -/

section
variable (x : Axis)

theorem Axis.filtered_ne_phase (h : x.outcome = .phaseError) : x.filtered ≠ x.phase := fun e => by
  have none : ∀ (m : DecodeMode) (a b : Bool), decode m { a := a, b := b } { a := a, b := b } ≠ .phaseError := fun m => by
    cases m <;> decide
  rw [Axis.outcome, e] at h
  exact none _ _ _ h

theorem Axis.faults_iff :
    x.faults = true ↔ x.config.faultThreshold ≠ 0 ∧ x.errorSince.toNat + 1 = x.config.faultThreshold.toNat := by
  simp only [Axis.faults, Bool.and_eq_true, decide_eq_true_eq]
  generalize x.config.faultThreshold = m
  generalize x.errorSince = e
  bv_omega

end

section
variable (s : State) (n : AxisNo) (h : Option HostAction)

/-- The journal after the PHASE_ERR record of an axis (R11). -/
def State.errorCounted : Journal :=
  if (s.axis n).config.recordPhaseErrors then
    s.journal.offer { source := .counter n,
                      content := s.errorRecord .phaseErr n ((s.axis n).withError.errorTotal.setWidth 32) }
  else s.journal

/-- The journal after the host action between the two records (R149). -/
def State.errorBetween : Journal := h.elim (s.errorCounted n) ((s.errorCounted n).perform s.now)

/-- The state after the PHASE_ERR record of an axis and the host action (R11, R149). -/
def State.errorTaken : State :=
  ((s.setAxis n (s.axis n).withError).offerIf (s.axis n).config.recordPhaseErrors (.counter n)
    (s.errorRecord .phaseErr n ((s.axis n).withError.errorTotal.setWidth 32))).perform h

theorem State.errorTaken_journal : (s.errorTaken n h).journal = s.errorBetween n h := by
  rw [State.errorTaken, State.perform_journal, State.offerIf_journal, State.offerIf_now]
  rfl

theorem State.errorTaken_interrupts : (s.errorTaken n h).interrupts =
    s.interrupts.raiseIf ((s.axis n).config.recordPhaseErrors && s.journal.full) .jrnlLoss := by
  rw [State.errorTaken, State.perform_interrupts, State.offerIf_interrupts]
  rfl

theorem State.errorTaken_bus : (s.errorTaken n h).bus =
    { s.bus with dataOut := (h.bind (s.errorCounted n).driven).or s.bus.dataOut } := by
  rw [State.errorTaken, State.perform_bus, State.offerIf_journal, State.offerIf_bus]
  rfl

theorem State.phaseError_eq : s.phaseError n h =
    if (s.axis n).faults then
      ((s.errorTaken n h).offer (.counter n)
        (s.errorRecord .fault n ((s.axis n).withError.errorSince.setWidth 32))).raise (.axFault n)
    else s.errorTaken n h := rfl

theorem State.phaseError_journal : (s.phaseError n h).journal =
    if (s.axis n).faults then
      (s.errorBetween n h).offer { source := .counter n,
                                   content := s.errorRecord .fault n ((s.axis n).withError.errorSince.setWidth 32) }
    else s.errorBetween n h := by
  rw [State.phaseError_eq, ← State.errorTaken_journal]
  split <;> rfl

theorem State.phaseError_interrupts : (s.phaseError n h).interrupts =
    ((s.interrupts.raiseIf ((s.axis n).config.recordPhaseErrors && s.journal.full) .jrnlLoss).raiseIf
      ((s.axis n).faults && (s.errorBetween n h).full) .jrnlLoss).raiseIf (s.axis n).faults (.axFault n) := by
  rw [State.phaseError_eq, ← State.errorTaken_journal, ← s.errorTaken_interrupts n h]
  cases (s.axis n).faults <;> rfl

theorem State.phaseError_bus : (s.phaseError n h).bus =
    { s.bus with dataOut := (h.bind (s.errorCounted n).driven).or s.bus.dataOut } := by
  rw [State.phaseError_eq, ← State.errorTaken_bus]
  split <;> rfl

/-- The record of a phase error does not show the decoder phase. -/
theorem State.takePair_errorRecord (cause : Cause) (v : BitVec 32) :
    (s.takePair n).errorRecord cause n v = s.errorRecord cause n v := by
  rw [State.errorRecord, s.takePair_axis_self n]
  rfl

end

/-- Settles O13. -/
theorem phaseErrorCountsAndFaultsAtTheThreshold : Obligations.PhaseErrorCountsAndFaultsAtTheThreshold := by
  intro n h s hr x hc ho
  have taken : s.takeEvaluation { axis := n, between := h } = (s.takePair n).phaseError n h := by
    rw [s.takeEvaluation_of_counting _ hc (x.filtered_ne_phase ho), s.evaluate_eq, show Axis.outcome _ = _ from ho]
  have pair : (s.takePair n).axis n = { x with phase := x.filtered } := s.takePair_axis_self n
  have record := s.takePair_errorRecord n
  have counted : (s.takePair n).errorCounted n = s.errorCounted n := by
    rw [State.errorCounted, record, pair]
    rfl
  have between : (s.takePair n).errorBetween n h = s.errorBetween n h := by
    rw [State.errorBetween, counted]
    rfl
  have axes := State.phaseError_axes n h (s.takePair n)
  have journal := (s.takePair n).phaseError_journal n h
  have interrupts := (s.takePair n).phaseError_interrupts n h
  have bus := (s.takePair n).phaseError_bus n h
  have frame := (s.takePair n).phaseError_frame n h
  rw [pair] at axes journal interrupts
  rw [between] at journal interrupts
  rw [record] at journal
  rw [counted] at bus
  refine ⟨_, ({ x with phase := x.filtered } : Axis).withError, (exec_decoderEvaluation hr _).trans (congrArg _ taken), ?_, rfl,
    satInc_toNat _ (by decide), satInc_toNat _ (by decide), ⟨fun hf => if_pos (x.faults_iff.mpr hf),
    fun hf => (if_neg (fun h => hf (x.faults_iff.mp h))).trans hc, ⟨fun hf => ?_, fun hf => ?_, ?_, bus⟩, ?_⟩, ⟨?_, fun f hf => ?_⟩, frame⟩
  · exact axes.trans (Vector.set_set ..)
  · exact journal.trans (if_pos (x.faults_iff.mpr hf))
  · exact journal.trans (if_neg fun h => hf (x.faults_iff.mp h))
  · rw [interrupts, Interrupts.raiseIf_isSet, Interrupts.raiseIf_isSet, Interrupts.raiseIf_isSet, ← x.faults_iff]
    simp [Journal.full_eq, or_assoc]
    rfl
  · rw [interrupts, Interrupts.raiseIf_isSet, Interrupts.raiseIf_isSet, Interrupts.raiseIf_isSet, ← x.faults_iff]
    simp
    rfl
  · rw [interrupts]
    simp
    rfl
  · obtain ⟨hax, hloss⟩ : f ≠ .axFault n ∧ f ≠ .jrnlLoss := by simpa using hf
    rw [interrupts, Interrupts.raiseIf_isSet, Interrupts.raiseIf_isSet, Interrupts.raiseIf_isSet]
    simp [hax.symm, hloss.symm]
    rfl

end Sys2Proof.Machine
end

section
/-! Counting steps and fires (R7 to R10, R52, R55 to R58). -/
namespace Sys2Proof.Machine

/-! ## The position that a step reaches -/

section
variable {x : Axis} {d : Direction}

/-- The largest and the smallest signed position of 32 bits. -/
theorem position_max_iff (p : BitVec 32) : p = 0x7FFFFFFF ↔ p.toInt = 2 ^ 31 - 1 := BitVec.toInt_inj.symm

theorem position_min_iff (p : BitVec 32) : p = 0x80000000 ↔ p.toInt = -2 ^ 31 := BitVec.toInt_inj.symm

theorem toInt_add_one (p : BitVec 32) : (p + 1).toInt = if p.toInt = 2 ^ 31 - 1 then -2 ^ 31 else p.toInt + 1 := by
  rw [BitVec.toInt_eq_toNat_cond, BitVec.toInt_eq_toNat_cond]
  bv_omega

theorem toInt_sub_one (p : BitVec 32) : (p - 1).toInt = if p.toInt = -2 ^ 31 then 2 ^ 31 - 1 else p.toInt - 1 := by
  rw [BitVec.toInt_eq_toNat_cond, BitVec.toInt_eq_toNat_cond]
  bv_omega

theorem Axis.reaches_move (h : x.PositionSound) : x.Reaches d (x.move d).position := by
  obtain ⟨hc, hp, _⟩ := h
  unfold Axis.Reaches Axis.move
  cases hr : x.config.range <;> cases d <;> simp only
  case linear.forward => exact toInt_add_one _
  case linear.reverse => exact toInt_sub_one _
  all_goals
    obtain ⟨h2, hm⟩ := hc.modulus hr
    have hpos := (inRevolution_iff_toNat hm).mp (hp hr)
    split <;> split <;> simp only <;> bv_omega

theorem Axis.revolves_move (h : x.PositionSound) : x.Revolves d (x.move d).revolution := by
  obtain ⟨hc, hp, _⟩ := h
  unfold Axis.Revolves Axis.move
  cases hr : x.config.range <;> cases d <;> simp only
  case rotary.forward =>
    obtain ⟨h2, hm⟩ := hc.modulus hr
    have last : x.position = x.config.modulus - 1 ↔ x.position.toNat = x.config.modulus.toNat - 1 := by bv_omega
    simp only [← last]
    split
    · exact BitVec.toInt_add _ _
    · rfl
  case rotary.reverse =>
    have first : x.position = 0 ↔ x.position.toNat = 0 := by bv_omega
    simp only [← first]
    split
    · exact BitVec.toInt_sub
    · rfl

/-- A step reaches one position. -/
theorem Axis.Reaches.unique {p q : BitVec 32} (hp : x.Reaches d p) (hq : x.Reaches d q) : p = q := by
  unfold Axis.Reaches at hp hq
  cases hr : x.config.range <;> cases d <;> simp only [hr] at hp hq
  · exact BitVec.toInt_inj.mp (hp.trans hq.symm)
  · exact BitVec.toInt_inj.mp (hp.trans hq.symm)
  · exact BitVec.eq_of_toNat_eq (hp.trans hq.symm)
  · exact BitVec.eq_of_toNat_eq (hp.trans hq.symm)

theorem Axis.wraps_iff : (x.wraps d && x.config.recordWraps) = true ↔ x.Wraps d := by
  unfold Axis.Wraps Axis.wraps
  cases d <;> simp only [Bool.and_eq_true, decide_eq_true_eq, position_max_iff, position_min_iff] <;> simp <;> tauto

end

/-- A qualifier accepts a direction when it is ANY or that direction (R26). -/
theorem Qualifier.accepts_iff (q : Qualifier) (d : Direction) :
    q.accepts d = true ↔ q = .any ∨ q = (match d with | .forward => .forward | .reverse => .reverse) := by
  cases q <;> cases d <;> decide

/-! ## A counting step -/

section
variable {s : State} {n : AxisNo} {d : Direction}

theorem State.takeEvaluation_of_steps (h : Option HostAction) (hs : s.Steps n d) :
    s.takeEvaluation { axis := n, between := h } = (s.takePair n).countStep n h d := by
  obtain ⟨_, hc, hf, ho⟩ := hs
  rw [s.takeEvaluation_of_counting _ hc hf, s.evaluate_eq, show Axis.outcome _ = _ from ho]
  cases d <;> cases (s.axis n).config.invert <;> rfl

end

section
variable (s : State) (n : AxisNo) (h : Option HostAction) (d : Direction)

/-- The axis after a counting step of its new pair. -/
theorem Axis.move_pair (x : Axis) : ({ x with phase := x.filtered } : Axis).move d =
    { x with position := (x.move d).position, revolution := (x.move d).revolution, direction := d, phase := x.filtered } := by
  unfold Axis.move
  cases hr : x.config.range <;> cases d <;> simp only
  · split <;> rfl
  · split <;> rfl

/-- The journal after the WRAP record of a step of the new pair (R8). -/
theorem State.wrapped_eq : s.wrapped n d ((s.axis n).move d).position =
    if (s.axis n).wraps d && (s.axis n).config.recordWraps then
      s.journal.offer { source := .counter n, content :=
        { cause := .wrap, axis := some n, stamp := (s.axis n).sampledAt, position := some ((s.axis n).move d).position,
          aux := some (d.code.setWidth 16) } }
    else s.journal := by
  have aux : (if d = .forward then 0 else 1 : BitVec 16) = d.code.setWidth 16 := by cases d <;> rfl
  rw [State.wrapped, aux]
  simp only [Axis.wraps_iff]

/-- The journal of a step before its arrival: the WRAP record and then the host action (R8, R149). -/
theorem State.stepped_journal : ((s.takePair n).stepped n h d).journal =
    h.elim (s.wrapped n d ((s.axis n).move d).position)
      ((s.wrapped n d ((s.axis n).move d).position).perform s.now) := by
  rw [State.stepped, State.perform_journal, State.offerIf_journal, State.offerIf_now, State.takePair_axis_self,
    Axis.move_pair, s.wrapped_eq]
  rfl

theorem State.stepped_interrupts : ((s.takePair n).stepped n h d).interrupts =
    s.interrupts.raiseIf (decide ((s.axis n).Wraps d) && s.journal.full) .jrnlLoss := by
  have wraps : decide ((s.axis n).Wraps d) = ((s.axis n).wraps d && (s.axis n).config.recordWraps) := by
    rw [Bool.eq_iff_iff, decide_eq_true_iff, Axis.wraps_iff]
  rw [State.stepped, State.perform_interrupts, State.offerIf_interrupts, State.takePair_axis_self, wraps]
  rfl

theorem State.stepped_bus : ((s.takePair n).stepped n h d).bus =
    { s.bus with dataOut :=
        (h.bind (s.wrapped n d ((s.axis n).move d).position).driven).or s.bus.dataOut } := by
  rw [State.stepped, State.perform_bus, State.offerIf_journal, State.offerIf_bus, State.takePair_axis_self,
    Axis.move_pair, s.wrapped_eq]
  rfl

theorem State.stepped_axes : ((s.takePair n).stepped n h d).axes = s.axes.set n { s.axis n with
    position := ((s.axis n).move d).position, revolution := ((s.axis n).move d).revolution, direction := d,
    phase := (s.axis n).filtered } := by
  rw [State.stepped_frame, State.takePair_axis_self, Axis.move_pair]
  exact Vector.set_set ..

theorem State.stepped_axis : ((s.takePair n).stepped n h d).axis n = { s.axis n with
    position := ((s.axis n).move d).position, revolution := ((s.axis n).move d).revolution, direction := d,
    phase := (s.axis n).filtered } := by
  rw [State.stepped_axis_self, State.takePair_axis_self, Axis.move_pair]

/-- A step leaves what is not its axis, the journal, the flags and D. -/
theorem State.stepped_pair_frame : (s.takePair n).stepped n h d = { s with
    axes := ((s.takePair n).stepped n h d).axes, journal := ((s.takePair n).stepped n h d).journal
    interrupts := ((s.takePair n).stepped n h d).interrupts, bus := ((s.takePair n).stepped n h d).bus } := by
  have frame := (s.takePair n).stepped_frame n h d
  rw [frame]
  rfl

/-- A step moves no schedule, so the head is compared before it as after it. -/
theorem State.stepped_live (k : Slot) : ((s.takePair n).stepped n h d).Live n k ↔ s.Live n k := by
  have frame := s.stepped_pair_frame n h d
  have schedule : ((s.takePair n).stepped n h d).schedule n = s.schedule n := by rw [frame]; rfl
  have triggers : ((s.takePair n).stepped n h d).triggers = s.triggers := by rw [frame]
  have axis := s.stepped_axis n h d
  exact ⟨fun hl => hl.of_eq schedule (by rw [axis]) (by rw [axis]) triggers,
    fun hl => hl.of_eq schedule.symm (by rw [axis]) (by rw [axis]) triggers.symm⟩

/-- What the arrival of a step can do: it fires a live head at its target, or nothing (R52, R53). -/
theorem State.arrival_stepped : ((s.takePair n).stepped n h d).arrival n = (s.takePair n).stepped n h d ∨
    ∃ k, s.Live n k ∧ ((s.axis n).move d).position = (s.entry k).target ∧ (s.entry k).qualifier.accepts d = true := by
  have entry : ∀ k, ((s.takePair n).stepped n h d).entry k = s.entry k := fun k => by
    rw [s.stepped_pair_frame n h d]; rfl
  refine (State.arrival_cases n _).imp_right ?_
  rintro ⟨k, rest, hl, hlive, hpos, hdir, _⟩
  rw [s.stepped_axis n h d, entry] at hpos hdir
  exact ⟨k, (s.stepped_live n h d k).mp ((State.liveCondition_iff hl).mp hlive), hpos, hdir⟩

/-- What a counting step reaches (R10). -/
theorem State.countStep_pair_frame : (s.takePair n).countStep n h d =
    { s with
      axes := ((s.takePair n).countStep n h d).axes, schedules := ((s.takePair n).countStep n h d).schedules
      pool := ((s.takePair n).countStep n h d).pool, lines := ((s.takePair n).countStep n h d).lines
      journal := ((s.takePair n).countStep n h d).journal, interrupts := ((s.takePair n).countStep n h d).interrupts
      bus := ((s.takePair n).countStep n h d).bus } := by
  have frame := (s.takePair n).countStep_frame n h d
  have axes : ((s.takePair n).countStep n h d).axes =
      (s.takePair n).axes.set n (((s.takePair n).axis n).move d) := congrArg State.axes frame
  rw [← axes] at frame
  exact frame

end

/-- Settles O14: only the arrival reaches the schedules, the pool and the lines, and it stands when it fires nothing. -/
theorem stepMovesThePositionByOne : Obligations.StepMovesThePositionByOne := by
  intro n h d s hs hsound
  have arrived := ((s.takePair n).stepped n h d).arrival_frame n
  refine ⟨_, _, _, (exec_decoderEvaluation hs.1 _).trans (congrArg _ (State.takeEvaluation_of_steps h hs)),
    Axis.reaches_move hsound, Axis.revolves_move hsound, ?_, ?_, ?_, fun hno => ?_⟩
  · rw [State.countStep_eq, arrived]
    exact s.stepped_axes n h d
  · rw [State.countStep_eq, arrived]
    exact s.stepped_bus n h d
  · exact s.countStep_pair_frame n h d
  · have stands : (s.takePair n).countStep n h d = (s.takePair n).stepped n h d := by
      obtain e | ⟨k, hlive, hpos, hdir⟩ := s.arrival_stepped n h d
      · exact e
      · obtain hne | ⟨hany, hother⟩ := hno k hlive
        · exact absurd hpos.symm hne
        · exact absurd ((Qualifier.accepts_iff _ d).mp hdir) (not_or.mpr ⟨hany, hother⟩)
    rw [stands]
    refine ⟨s.stepped_journal n h d, ⟨?_, fun f hf => ?_⟩, ?_, s.stepped_pair_frame n h d⟩
    · rw [s.stepped_interrupts, Interrupts.raiseIf_enables]
    · have hloss : Flag.jrnlLoss ≠ f := fun e => hf (by rw [e]; exact List.mem_cons_self)
      simp [s.stepped_interrupts, Interrupts.raiseIf_isSet, hloss]
    · simp only [s.stepped_interrupts, Interrupts.raiseIf_isSet, Journal.full_eq, Bool.or_eq_true, Bool.and_eq_true,
        decide_eq_true_eq, and_true]

end Sys2Proof.Machine
end

section
/-! A step that fires the head of its schedule: what the fire reaches, field by field (R55 to R58). -/
namespace Sys2Proof.Machine

/-! ## What a fire reaches -/

section
variable (s : State) (n : AxisNo) (k : Slot)

/-- A PULSE on a line that is not STATIC sets OUT_COLLIDE (R93). -/
theorem State.sendOutput_interrupts (e : Entry) : (s.sendOutput e).interrupts =
    s.interrupts.raiseIf (e.op = .pulse && (s.line (Fin.ofNat 8 e.line.toNat)).state ≠ .static) .outCollide := by
  cases h : e.op <;> simp [State.sendOutput, OutputOp.request, h, Line.collides]

theorem State.fireOutput_journal : (s.fireOutput n k).journal =
    if (s.entry k).record = .none then s.journal
    else s.journal.offer { source := .schedule n, content :=
      (s.entryRecord .compare (s.axis n).sampledAt n k ((s.entry k).remaining - 1)
        (if (s.entry k).record = .gang then some s.gang else none)) } := by
  rw [State.fireOutput, State.offerIf_journal, State.sendOutput_frame]
  by_cases h : (s.entry k).record = .none <;> simp [h]

theorem State.fireOutput_interrupts : (s.fireOutput n k).interrupts =
    (s.interrupts.raiseIf ((s.entry k).op = .pulse && (s.line (Fin.ofNat 8 (s.entry k).line.toNat)).state ≠ .static)
      .outCollide).raiseIf ((s.entry k).record ≠ .none && s.journal.full) .jrnlLoss := by
  rw [State.fireOutput, State.offerIf_interrupts, State.sendOutput_interrupts, State.sendOutput_frame]

theorem State.fire_journal : (s.fire n k).journal = (s.fireOutput n k).journal := by
  by_cases h : (s.entry k).remaining - 1 = 0
  · rw [State.fire_of_last h, State.departHead_journal]
    rfl
  · rw [State.fire_of_more h]
    rfl

/-- The record of the slot after a fire: the count one less, and the target advanced while fires are left (R55, R57). -/
theorem State.fire_entries : ∃ target, (s.fire n k).pool.entries =
      s.pool.entries.set k { s.entry k with remaining := (s.entry k).remaining - 1, target := target } ∧
    ((s.entry k).remaining - 1 ≠ 0 → target = (s.axis n).config.advance (s.entry k).target (s.entry k).stride) := by
  by_cases h : (s.entry k).remaining - 1 = 0
  · refine ⟨(s.entry k).target, ?_, fun h' => absurd h h'⟩
    rw [State.fire_of_last h, State.departHead_entries, s.fireOutput_eq n k]
    rfl
  · refine ⟨_, ?_, fun _ => rfl⟩
    rw [State.fire_of_more h, s.fireOutput_eq n k]
    rfl

section
variable {s n k} {rest : List Slot}

/-- The last fire of an entry: its slot goes to the free list, and the schedule goes on or runs dry (R58). -/
theorem State.fire_last (hl : (s.schedule n).list = k :: rest) (h : (s.entry k).remaining - 1 = 0) :
    (s.fire n k).pool.free = s.pool.free ++ [k] ∧
    (s.fire n k).schedules = s.schedules.set n { s.schedule n with
      list := rest, compareDue := (s.schedule n).compareDue || !rest.isEmpty } ∧
    (s.fire n k).interrupts = (s.fireOutput n k).interrupts.raiseIf rest.isEmpty (.schedDry n) := by
  have hl' : ∀ e, (((s.fireOutput n k).setEntry k e).schedule n).list = k :: rest := fun e => by
    rw [s.fireOutput_eq n k]
    exact hl
  rw [State.fire_of_last h, State.departHead_cons _ _ _ (hl' _)]
  refine ⟨?_, ?_, rfl⟩ <;> (rw [s.fireOutput_eq n k]; rfl)

/-- A fire that is not the last moves no slot (R57). -/
theorem State.fire_more (h : (s.entry k).remaining - 1 ≠ 0) :
    (s.fire n k).pool.free = s.pool.free ∧ (s.fire n k).schedules = s.schedules ∧
    (s.fire n k).interrupts = (s.fireOutput n k).interrupts := by
  rw [State.fire_of_more h]
  refine ⟨?_, ?_, rfl⟩ <;> (rw [s.fireOutput_eq n k]; rfl)

theorem State.fire_interrupts (hl : (s.schedule n).list = k :: rest) : (s.fire n k).interrupts =
    (s.fireOutput n k).interrupts.raiseIf ((s.entry k).remaining - 1 = 0 && rest.isEmpty) (.schedDry n) := by
  by_cases h : (s.entry k).remaining - 1 = 0
  · rw [(State.fire_last hl h).2.2, decide_eq_true h, Bool.true_and]
  · rw [(State.fire_more h).2.2, decide_eq_false h, Bool.false_and, Interrupts.raiseIf_false]

end

end

/-- The advance of a target, as a signed position of a LINEAR axis and within the revolution of a ROTARY one (R57). -/
theorem AxisConfig.advance_value {c : AxisConfig} (hc : c.Sound) (target stride : BitVec 32) :
    match c.range with
    | .linear => (c.advance target stride).toInt = (target.toInt + stride.toInt).bmod (2 ^ 32)
    | .rotary => ((c.advance target stride).toNat : Int) = (target.toInt + stride.toInt) % (c.modulus.toNat : Int) := by
  cases hr : c.range <;> simp only [AxisConfig.advance, hr]
  · exact BitVec.toInt_add _ _
  · obtain ⟨h2, hm⟩ := hc.modulus hr
    have value := toInt_ofInt_emod (target.toInt + stride.toInt) (by omega) hm
    have nonneg := Int.emod_nonneg (target.toInt + stride.toInt) (b := (c.modulus.toNat : Int)) (by omega)
    rw [BitVec.toInt_eq_toNat_cond] at value
    split at value <;> omega

/-- The gang capture shows the state and the position of every axis alone (R116). -/
theorem State.gang_eq (s : State) :
    s.gang = { positions := s.axes.map fun x => if x.state = .stopped then none else some x.position } := by
  rw [State.gang, eachUnit_eq_map]
  rfl

/-! ## The step -/

section
variable {s : State} {n : AxisNo} {d : Direction} {k : Slot} {rest : List Slot}

/-- A step onto the target of a live head, in a direction it accepts, is the fire of the head (R52). -/
theorem State.countStep_of_fires (h : Option HostAction) (hlive : s.Live n k) (hl : (s.schedule n).list = k :: rest)
    (hpos : ((s.axis n).move d).position = (s.entry k).target) (hdir : (s.entry k).qualifier.accepts d = true) :
    (s.takePair n).countStep n h d = ((s.takePair n).stepped n h d).fire n k := by
  have frame := s.stepped_pair_frame n h d
  have list : (((s.takePair n).stepped n h d).schedule n).list = k :: rest := by rw [frame]; exact hl
  have entry : ((s.takePair n).stepped n h d).entry k = s.entry k := by rw [frame]; rfl
  have live := (State.liveCondition_iff list).mpr ((s.stepped_live n h d k).mpr hlive)
  rw [State.countStep_eq, State.arrival, list]
  simp only
  rw [if_pos]
  rw [entry, s.stepped_axis n h d]
  exact ⟨live, hpos, hdir⟩

end

/-- Settles O15: the fields of the state after the step, one after another from the fields that the fire reaches. -/
theorem stepThatFiresItsHead : Obligations.StepThatFiresItsHead := by
  intro n h d k rest s hs hsound hlive hl hvalid hreach hdir
  have hpos : ((s.axis n).move d).position = (s.entry k).target := (Axis.reaches_move hsound).unique hreach
  have fires := State.countStep_of_fires h hlive hl hpos ((Qualifier.accepts_iff _ d).mpr hdir)
  have frame := s.stepped_pair_frame n h d
  have journal := s.stepped_journal n h d
  have interrupts := s.stepped_interrupts n h d
  have bus := s.stepped_bus n h d
  have axes := s.stepped_axes n h d
  have axis := s.stepped_axis n h d
  have whole := s.countStep_pair_frame n h d
  rw [fires] at whole
  rw [hpos] at journal bus
  refine ⟨_, (exec_decoderEvaluation hs.1 _).trans (congrArg _ ((State.takeEvaluation_of_steps h hs).trans fires)), ?_⟩
  have entry : ((s.takePair n).stepped n h d).entry k = s.entry k := by rw [frame]; rfl
  have list : (((s.takePair n).stepped n h d).schedule n).list = k :: rest := by rw [frame]; exact hl
  have schedules : ((s.takePair n).stepped n h d).schedules = s.schedules := by rw [frame]
  have pool : ((s.takePair n).stepped n h d).pool = s.pool := by rw [frame]
  have lines : ((s.takePair n).stepped n h d).lines = s.lines := by rw [frame]
  generalize (s.takePair n).stepped n h d = u at frame journal interrupts bus axes axis entry list whole schedules pool lines ⊢
  have fired := u.fire_frame n k
  have last : (s.entry k).remaining - 1 = 0 ↔ (s.entry k).remaining = 1 := by
    generalize (s.entry k).remaining = r
    bv_omega
  have onLine : (s.entry k).op ≠ .none → (Fin.ofNat 8 (s.entry k).line.toNat : LineNo).val = (s.entry k).line.toNat :=
    fun hop => Nat.mod_eq_of_lt (hvalid.2.2.1 hop)
  have line : ∀ l, u.line l = s.line l := fun l => by rw [State.line, lines]; rfl
  have schedule : u.schedule n = s.schedule n := by rw [State.schedule, schedules]; rfl
  have moved : (u.fire n k).axis n = u.axis n := by rw [fired]; rfl
  have flags := u.fire_interrupts list
  rw [u.fireOutput_interrupts, entry, line, interrupts, journal] at flags
  have content : u.entryRecord .compare (u.axis n).sampledAt n k ((s.entry k).remaining - 1)
      (if (s.entry k).record = .gang then some u.gang else none) =
      { cause := .compare, axis := some n, stamp := (s.axis n).sampledAt, position := some (s.entry k).target,
        revolution := if (s.axis n).config.range = .rotary then some (u.axis n).revolution else none,
        gang := if (s.entry k).record = .gang then
            some { positions := u.axes.map (fun x => if x.state = .stopped then none else some x.position) } else none,
        entry := some { slot := k, tag := (s.entry k).tag, remaining := (s.entry k).remaining - 1 } } := by
    rw [State.entryRecord, entry, Axis.revolutionGroup, u.gang_eq, axis, hpos]
  dsimp only
  refine ⟨?axes, ?position, ?line, ?journal, ?entries, fun h1 => ?retired, fun h1 => ?advanced, ?schedules, ?collide, ?loss,
    ⟨?enables, fun f hf => ?others⟩, ?bus, whole⟩
  case axes =>
    rw [moved, axis, fired]
    exact axes
  case position => rw [moved, axis]; exact hpos
  case line =>
    rw [u.fire_lines, entry]
    obtain ⟨hop, e⟩ | ⟨q, hq, e⟩ := u.sendOutput_cases (s.entry k) <;> rw [e]
    · exact .inl ⟨hop, lines⟩
    · refine .inr ⟨_, q, onLine fun hop => ?_, hq, ?_⟩
      · rw [hop] at hq; cases hq
      · rw [State.request_lines, line, lines]
  case journal =>
    rw [u.fire_journal, u.fireOutput_journal, entry, content, journal, moved, fired]
  case entries =>
    obtain ⟨target, he, ht⟩ := u.fire_entries n k
    rw [entry, pool] at he
    rw [entry, axis] at ht
    refine ⟨target, he, fun h1 => ?_⟩
    rw [ht fun h0 => h1 (last.mp h0)]
    exact AxisConfig.advance_value hsound.1 _ _
  case retired =>
    obtain ⟨free, hschedules, _⟩ := u.fire_last list (by rw [entry]; exact last.mpr h1)
    have hschedule : (u.fire n k).schedule n = _ := (State.schedule_of_set hschedules n).trans (if_pos rfl)
    rw [hschedule, free, pool, flags, decide_eq_true (last.mpr h1)]
    refine ⟨rfl, rfl, fun hne => ?_, ?_⟩
    · simp [List.isEmpty_eq_false_iff.mpr hne]
    · simp [Interrupts.raiseIf_isSet]
  case advanced =>
    obtain ⟨free, hschedules, _⟩ := u.fire_more (n := n) (k := k) (by rw [entry]; exact fun h0 => h1 (last.mp h0))
    rw [free, pool, hschedules, schedules, flags, decide_eq_false fun h0 => h1 (last.mp h0)]
    exact ⟨rfl, rfl, by simp [Interrupts.raiseIf_isSet]⟩
  case schedules =>
    by_cases h0 : (s.entry k).remaining - 1 = 0
    · obtain ⟨_, hschedules, _⟩ := u.fire_last list (by rw [entry]; exact h0)
      have hschedule : (u.fire n k).schedule n = _ := (State.schedule_of_set hschedules n).trans (if_pos rfl)
      rw [hschedule, hschedules, schedules, schedule]
    · obtain ⟨_, hschedules, _⟩ := u.fire_more (n := n) (k := k) (by rw [entry]; exact h0)
      rw [State.schedule, hschedules, schedules]
      exact (Vector.set_getElem_self _).symm
  case collide =>
    have colliding : ((s.entry k).op = .pulse ∧ ∃ l : LineNo, l.val = (s.entry k).line.toNat ∧ (s.line l).state ≠ .static) ↔
        (s.entry k).op = .pulse ∧ (s.line (Fin.ofNat 8 (s.entry k).line.toNat)).state ≠ .static := by
      refine and_congr_right fun hop => ⟨fun ⟨l, hl, hs⟩ => ?_, fun hs => ⟨_, onLine (by rw [hop]; nofun), hs⟩⟩
      rwa [show Fin.ofNat 8 (s.entry k).line.toNat = l from Fin.ext ((onLine (by rw [hop]; nofun)).trans hl.symm)]
    rw [colliding, flags]
    simp [Interrupts.raiseIf_isSet]
  case loss =>
    rw [flags]
    simp only [Interrupts.raiseIf_isSet, Journal.full_eq, Bool.or_eq_true, Bool.and_eq_true, decide_eq_true_eq]
    simp [or_assoc]
  case enables => rw [flags]; simp
  case others =>
    obtain ⟨hloss, hcollide, hdry⟩ : f ≠ .jrnlLoss ∧ f ≠ .outCollide ∧ f ≠ .schedDry n := by simpa using hf
    rw [flags]
    simp [Interrupts.raiseIf_isSet, hloss.symm, hcollide.symm, hdry.symm]
  case bus => rw [fired]; exact bus

end Sys2Proof.Machine
end

section
/-! The axis commands that wait: AXIS_START, AXIS_RESUME, AXIS_STOP, AXIS_CLRERR, AXIS_CONFIG and AXIS_RESET (R14 to R17, R20 to
R22, R75, R88). -/
namespace Sys2Proof.Machine

/-! ## The rows that wait -/

section
variable {s : State} {n : AxisNo}

theorem State.Waits.exec_axisStart (h : s.Waits .axisStart (unitOfAxis n)) :
    exec (.axisStart (unitOfAxis n)) s = .next (s.startAxis n) :=
  h.exec_row.trans (by rw [Command.owner, axisOf_unitOfAxis])

theorem State.Waits.exec_axisResume (h : s.Waits .axisResume (unitOfAxis n)) :
    exec (.axisResume (unitOfAxis n)) s = .next (s.resumeAxis n) :=
  h.exec_row.trans (by rw [Command.owner, axisOf_unitOfAxis])

theorem State.Waits.exec_axisStop (h : s.Waits .axisStop (unitOfAxis n)) :
    exec (.axisStop (unitOfAxis n)) s = .next (s.stopAxis n) :=
  h.exec_row.trans (by rw [Command.owner, axisOf_unitOfAxis])

theorem State.Waits.exec_axisClrerr (h : s.Waits .axisClrerr (unitOfAxis n)) :
    exec (.axisClrerr (unitOfAxis n)) s = .next (s.clearErrors n) :=
  h.exec_row.trans (by rw [Command.owner, axisOf_unitOfAxis])

theorem State.Waits.exec_axisConfig (h : s.Waits .axisConfig (unitOfAxis n)) :
    exec (.axisConfig (unitOfAxis n)) s = .next (s.configureAxis n) :=
  h.exec_row.trans (by rw [Command.owner, axisOf_unitOfAxis])

theorem State.Waits.exec_axisReset (h : s.Waits .axisReset (unitOfAxis n)) :
    exec (.axisReset (unitOfAxis n)) s = .next (s.resetAxis n) :=
  h.exec_row.trans (by rw [Command.owner, axisOf_unitOfAxis])

end

/-- Settles O17: each owner's event by the state of its axis. -/
theorem startResumeStopAndClearErrors : Obligations.StartResumeStopAndClearErrors := by
  intro n s x stopped counting
  refine ⟨fun hw => ⟨fun hx => ?_, fun hx => ?_⟩, fun hw => ⟨fun hx => ?_, fun hx => ?_⟩,
    fun hw => ⟨fun hx => ?_, fun hx => ?_, fun hx => ?_⟩, fun hw => hw.exec_axisClrerr⟩
  · rw [hw.exec_axisStart]
    exact congrArg _ (if_pos hx)
  · rw [hw.exec_axisStart]
    exact congrArg _ (if_neg hx)
  · rw [hw.exec_axisResume]
    exact congrArg _ (if_pos hx)
  · rw [hw.exec_axisResume]
    exact congrArg _ (if_neg hx)
  all_goals
    rw [hw.exec_axisStop]
    simp only [State.stopAxis, show (s.axis n).state = _ from hx] <;> rfl

/-- Settles O20. -/
theorem axisResetReturnsOneAxis : Obligations.AxisResetReturnsOneAxis := fun _ _ hw => hw.exec_axisReset

/-! ## The codes of the record -/

theorem DecodeMode.ofCode_code (c : BitVec 3) (h : ¬ 5 ≤ c.toNat) : c.toNat =
    (match (DecodeMode.ofCode c).getD .quadX4 with
      | .quadX4 => 0 | .quadX2 => 1 | .quadX1 => 2 | .stepDir => 3 | .upDown => 4) := by revert c; decide

theorem Range.ofCode_code (c : BitVec 2) (h : ¬ 2 ≤ c.toNat) : c.toNat =
    (match (Range.ofCode c).getD .linear with | .linear => 0 | .rotary => 1) := by revert c; decide

theorem SampleClock.ofCode_code (c : BitVec 2) : c.toNat =
    (match SampleClock.ofCode c with | .div1 => 0 | .div8 => 1 | .div64 => 2 | .div512 => 3) := by revert c; decide

theorem gatePhaseOfCode_code (c : BitVec 3) (h : ¬ (c.toNat = 1 ∨ c.toNat = 2 ∨ c.toNat = 3)) : c.toNat =
    (match (gatePhaseOfCode c).getD none with | none => 0 | some p => 4 + 2 * p.a.toNat + p.b.toNat) := by
  revert c; decide

theorem Qualifier.ofCode_code (c : BitVec 2) (h : ¬ c.toNat = 3) : c.toNat =
    (match (Qualifier.ofCode c).getD .any with | .any => 0 | .forward => 1 | .reverse => 2) := by revert c; decide

theorem Gate.ofCode_code (kind : BitVec 2) (trigger : BitVec 3)
    (h : ¬ (kind.toNat = 3 ∨ (kind.toNat ≠ 0 ∧ 4 ≤ trigger.toNat))) :
    match (Gate.ofCode kind trigger).getD .none with
    | .none => kind = 0
    | .onLevel i high => kind = (if high then 1 else 2) ∧ trigger.toNat = i.val := by
  have level : ∀ c : BitVec 2, c ≠ 0 → c ≠ 3 → c = (if decide (c = 1) then 1 else 2) := by decide
  have kind_three : kind = 3 → kind.toNat = 3 := fun e => by rw [e]; rfl
  have kind_zero : kind.toNat = 0 → kind = 0 := fun e => by bv_omega
  unfold Gate.ofCode
  by_cases h0 : kind = 0
  · rw [if_pos h0]
    exact h0
  · rw [if_neg h0]
    have h3 : kind ≠ 3 := fun e => h (.inl (kind_three e))
    have ht : trigger.toNat < 4 := Nat.lt_of_not_le fun ht => h (.inr ⟨fun e => h0 (kind_zero e), ht⟩)
    rw [if_pos ⟨h3, ht⟩]
    exact ⟨level kind h0 h3, (Nat.mod_eq_of_lt ht).symm⟩

/-! ## AXIS_CONFIG -/

section
variable {s : State} {n : AxisNo}

/-- The axis is STOPPED and its schedule is empty and not DRAINING (R20). -/
def State.Configurable (n : AxisNo) (s : State) : Prop :=
  (s.axis n).state = .stopped ∧ (s.schedule n).list = [] ∧ (s.schedule n).draining = false

theorem State.configureAxis_refused (h : ¬ s.Configurable n) : s.configureAxis n = s.complete .wrongState 0 0 := by
  refine if_pos ?_
  simp only [State.Configurable, not_and_or, Bool.not_eq_false] at h
  exact h

theorem State.configureAxis_judged (h : s.Configurable n) : s.configureAxis n =
    match s.engine.axisStaging.firstBad with
    | some k => s.complete .badArg (half k) 0
    | none => (s.setAxis n ((s.axis n).configure s.engine.axisStaging.toConfig)).complete .ok 0 0 := by
  obtain ⟨hx, hl, hd⟩ := h
  refine if_neg ?_
  simp [hx, hl, hd]

end

/-- Settles O19: the checks are those of `AxisStaging.Fails`, and a record that passes them all is the configuration. -/
theorem configJudgesTheRecordThenCopiesIt : Obligations.ConfigJudgesTheRecordThenCopiesIt := by
  intro n s hw x r ready rotary fails
  have same : ∀ k, fails k ↔ r.Fails k := fun k => Iff.rfl
  obtain ⟨some_iff, none_iff⟩ := r.firstBad_spec
  have load_iff : ∀ c : AxisConfig,
      (decide (c.range ≠ x.config.range) || (decide (c.range = .rotary) && decide (c.modulus ≠ x.config.modulus))) = true ↔
      c.range ≠ x.config.range ∨ (c.range = .rotary ∧ c.modulus ≠ x.config.modulus) := fun c => by
    simp only [Bool.or_eq_true, Bool.and_eq_true, decide_eq_true_eq]
  rw [hw.exec_axisConfig]
  refine ⟨fun hready => ?_, fun hready k hk hlt => ?_, fun hready hpass => ?_⟩
  · rw [State.configureAxis_refused hready]
  · rw [State.configureAxis_judged hready, (some_iff k).mpr ⟨(same k).mp hk, hlt⟩]
    rfl
  · have pass : ∀ k, ¬ r.Fails k := hpass
    rw [State.configureAxis_judged hready, none_iff.mpr pass]
    refine ⟨_, rfl, rfl, DecodeMode.ofCode_code _ (pass 0), rfl, Range.ofCode_code _ (pass 2), rfl, rfl,
      SampleClock.ofCode_code _, rfl, rfl, rfl, ?_, gatePhaseOfCode_code _ (pass 10), Qualifier.ofCode_code _ (pass 11),
      rfl, rfl, rfl, Gate.ofCode_code _ _ (pass 15), fun hload => ?_, fun hload => ?_⟩
    · simp only [Axis.configure, AxisStaging.toConfig]
      cases r.indexPolarity <;> rfl
    · have hload' := (load_iff r.toConfig).mpr hload
      simp only [Axis.configure]
      rw [if_pos hload', if_pos hload']
      exact ⟨rfl, rfl⟩
    · have hload' : ¬ _ := fun h => hload ((load_iff r.toConfig).mp h)
      simp only [Axis.configure]
      rw [if_neg hload', if_neg hload']
      exact ⟨rfl, rfl⟩

end Sys2Proof.Machine
end

section
/-! The steps and the completions of SCHED_APPEND and SCHED_FLUSH, and the deadline comparison (R25, R41, R43, R59 to R61, R68,
R70, R71). -/
namespace Sys2Proof.Machine

section
variable {s : State} {n : AxisNo}

/-! ## SCHED_APPEND -/

theorem exec_appendStep_step {p : AppendProgress} {k : Slot} {rest : List Slot} (hr : s.inReset = false)
    (hp : s.engine.phase = .appending p) (hl : p.left ≠ 0) (hf : s.pool.free = k :: rest) :
    exec .appendStep s = .next (s.appendEntry p k rest) := by
  rw [exec_appendStep_of_running hr fun ⟨_, hempty, _⟩ => by rw [hf] at hempty; cases hempty]
  simp only [State.stepAppend, hp, hf, if_neg hl]

theorem exec_appendStep_none (hr : s.inReset = false) (hp : ∀ p, s.engine.phase = .appending p → p.left = 0) :
    exec .appendStep s = .next s := by
  rw [exec_appendStep_of_running hr fun ⟨_, _, p, hp', hl⟩ => hl (hp p hp'), State.stepAppend]
  split
  · rename_i p k rest he _
    rw [if_pos (hp p he)]
  · rfl

/-- The codes of an entry are those of the staged entry that passed the checks (R190). -/
theorem Qualifier.code_of_ofCode (c : BitVec 2) (q : Qualifier) : Qualifier.ofCode c = some q →
    (match q with | .any => 0 | .forward => 1 | .reverse => 2) = c.toNat := fun h => by
  have codes : ∀ c, (Qualifier.ofCode c).elim c.toNat (fun q => match q with | .any => 0 | .forward => 1 | .reverse => 2) =
    c.toNat := by decide
  have := codes c
  rwa [h] at this

theorem OutputOp.code_of_ofCode (c : BitVec 3) (q : OutputOp) : OutputOp.ofCode c = some q →
    (match q with | .none => 0 | .pulse => 1 | .set => 2 | .clear => 3 | .toggle => 4) = c.toNat := fun h => by
  have codes : ∀ c, (OutputOp.ofCode c).elim c.toNat
      (fun q => match q with | .none => 0 | .pulse => 1 | .set => 2 | .clear => 3 | .toggle => 4) = c.toNat := by decide
  have := codes c
  rwa [h] at this

theorem RecordField.code_of_ofCode (c : BitVec 2) (q : RecordField) : RecordField.ofCode c = some q →
    (match q with | .none => 0 | .self => 1 | .gang => 2) = c.toNat := fun h => by
  have codes : ∀ c, (RecordField.ofCode c).elim c.toNat (fun q => match q with | .none => 0 | .self => 1 | .gang => 2) =
    c.toNat := by decide
  have := codes c
  rwa [h] at this

end

/-- Settles O24: the step is taken with the entry of the staging slot, which the batch's checks have passed. -/
theorem appendStepMovesOneSlot : Obligations.AppendStepMovesOneSlot := by
  intro n s hr
  refine ⟨fun p k rest i hu hp hl hi hf hbatch => ?_, exec_appendStep_none hr⟩
  obtain rfl : Fin.ofNat 8 p.next = i := Fin.ext ((Nat.mod_eq_of_lt (hi ▸ i.isLt)).trans hi.symm)
  have passes := hbatch p hp _ hi.ge (by omega)
  obtain ⟨qualifier, op, record⟩ := StagedEntry.toEntry_codes passes
  refine ⟨(s.engine.staged[Fin.ofNat 8 p.next]).toEntry, ?_, rfl, rfl, rfl, rfl, rfl, rfl, rfl, rfl, Qualifier.code_of_ofCode _ _ qualifier,
    OutputOp.code_of_ofCode _ _ op, RecordField.code_of_ofCode _ _ record⟩
  rw [exec_appendStep_step hr hp (by omega) hf, State.appendEntry, hu, axisOf_unitOfAxis]
  rfl

/-! ## Completions -/

section
variable {s : State} {n : AxisNo}

theorem exec_appendCompletion (hr : s.inReset = false) : exec .appendCompletion s = .next s.completeAppend :=
  exec_of_running .appendCompletion hr nofun

theorem exec_flushCompletion (hr : s.inReset = false) : exec .flushCompletion s = .next s.endFlush :=
  exec_of_running .flushCompletion hr nofun

theorem exec_flushStep (hr : s.inReset = false) : exec .flushStep s = .next s.stepFlush :=
  exec_of_running .flushStep hr nofun

end

/-- Settles O25. -/
theorem steppedCommandsCompleteAfterTheirLastStep : Obligations.SteppedCommandsCompleteAfterTheirLastStep := by
  intro n s hr hu
  refine ⟨fun p k hp hk => ⟨fun hl => ?_, fun hl => ?_⟩, fun total hp => ⟨fun hl => ?_, fun hl => ?_⟩⟩
  · rw [exec_appendCompletion hr]
    simp only [State.completeAppend, hp, hl, hk, hu, axisOf_unitOfAxis]
    rfl
  · rw [exec_appendCompletion hr]
    simp only [State.completeAppend, hp, if_neg hl]
  · rw [exec_flushCompletion hr]
    simp only [State.endFlush, hp, hu, axisOf_unitOfAxis, if_pos hl, State.completeFlush]
    rfl
  · rw [exec_flushCompletion hr]
    simp only [State.endFlush, hp, hu, axisOf_unitOfAxis, if_neg hl]

/-! ## SCHED_FLUSH -/

theorem State.Waits.exec_schedFlush {s : State} {n : AxisNo} (h : s.Waits .schedFlush (unitOfAxis n)) :
    exec (.schedFlush (unitOfAxis n)) s = .next (s.acceptFlush n) :=
  h.exec_row.trans (by rw [Command.owner, axisOf_unitOfAxis])

/-- Settles O27. -/
theorem flushDrainsOldestFirst : Obligations.FlushDrainsOldestFirst := by
  intro n s c
  refine ⟨fun hw => ⟨fun hl => ?_, fun hl => ?_⟩, fun hr hu total hp k rest hl => ?_, fun hr hp => ?_⟩
  · rw [hw.exec_schedFlush]
    exact congrArg _ (if_pos hl)
  · rw [hw.exec_schedFlush]
    exact congrArg _ (if_neg hl)
  · rw [exec_flushStep hr]
    simp only [State.stepFlush, hp, hu, axisOf_unitOfAxis]
    rw [s.returnHead_cons n k hl]
    rfl
  · rw [exec_flushStep hr, State.stepFlush]
    split
    · exact absurd ‹_› (hp _)
    · rfl

/-! ## The deadline comparison -/

section
variable {s : State} {n : AxisNo}

theorem exec_deadlineComparison (hr : s.inReset = false) :
    exec (.deadlineComparison n) s = .next (if (s.schedule n).compareDue then s.compareDeadline n else s) :=
  exec_of_running (.deadlineComparison n) hr nofun

/-- The head's deadline is present and reached, in a schedule and with an axis that let it be evaluated (R59). -/
theorem State.evaluates_iff (k : Slot) : s.evaluates n k = true ↔
    (s.entry k).deadlinePresent = true ∧ (s.schedule n).draining = false ∧ (s.axis n).state ≠ .faulted := by
  simp [State.evaluates, and_assoc]

theorem State.compareDeadline_stands
    (h : ∀ k, (s.schedule n).list.head? = some k →
      ¬ (s.evaluates n k = true ∧ (s.entry k).deadline.toNat ≤ s.now.toNat)) :
    s.compareDeadline n = s.setSchedule n { s.schedule n with compareDue := false } := by
  unfold State.compareDeadline
  split
  · rfl
  · rename_i k rest hl
    exact if_neg (h k (by rw [hl]; rfl))

theorem State.compareDeadline_expires {k : Slot} {rest : List Slot} (hl : (s.schedule n).list = k :: rest)
    (h : s.evaluates n k = true ∧ (s.entry k).deadline.toNat ≤ s.now.toNat) :
    s.compareDeadline n = State.expire n k (s.setSchedule n { s.schedule n with compareDue := false }) := by
  unfold State.compareDeadline
  rw [hl]
  exact if_pos h

end

/-- Settles O28. -/
theorem deadlineComparisonExpiresTheHead : Obligations.DeadlineComparisonExpiresTheHead := by
  intro n s hr c compared expires
  have expires_iff : ∀ k, expires k ↔ s.evaluates n k = true ∧ (s.entry k).deadline.toNat ≤ s.now.toNat := fun k => by
    rw [State.evaluates_iff, and_assoc, and_assoc]
    rfl
  rw [exec_deadlineComparison hr]
  refine ⟨fun hc => ?_, fun hc hno => ?_, fun k rest hc hl hex => ?_⟩
  · rw [show (s.schedule n).compareDue = false from hc]
    rfl
  · rw [if_pos hc, State.compareDeadline_stands fun k hk h => hno k hk ((expires_iff k).mpr h)]
    rfl
  · rw [if_pos hc, State.compareDeadline_expires hl ((expires_iff k).mp hex), State.expire,
      State.departHead_cons n k _ (rest := rest) (by simpa using hl), Interrupts.raiseIf_isEmpty]
    simp [State.schedule, State.entryRecord]
    exact ⟨rfl, rfl⟩

end Sys2Proof.Machine
end

section
/-! Requests to output lines, the expiries of their timers, and the counters that a read clears (R92 to R98, R100, R105, R124,
R142). -/
namespace Sys2Proof.Machine

/-! ## Requests -/

section
variable {s : State} {l : LineNo}

theorem State.Waits.exec_outSet (h : s.Waits .outSet (unitOfLine l)) :
    exec (.outSet (unitOfLine l)) s = .next (s.outCommand .set l) :=
  h.exec_row.trans (by rw [Command.owner, lineOf_unitOfLine])

theorem State.Waits.exec_outClear (h : s.Waits .outClear (unitOfLine l)) :
    exec (.outClear (unitOfLine l)) s = .next (s.outCommand .clear l) :=
  h.exec_row.trans (by rw [Command.owner, lineOf_unitOfLine])

theorem State.Waits.exec_outToggle (h : s.Waits .outToggle (unitOfLine l)) :
    exec (.outToggle (unitOfLine l)) s = .next (s.outCommand .toggle l) :=
  h.exec_row.trans (by rw [Command.owner, lineOf_unitOfLine])

theorem State.Waits.exec_outPulse (h : s.Waits .outPulse (unitOfLine l)) :
    exec (.outPulse (unitOfLine l)) s = .next (s.outCommand .pulse l) :=
  h.exec_row.trans (by rw [Command.owner, lineOf_unitOfLine])

/-- The code of a line state as the commands report it (R100). -/
theorem LineState.code_setWidth (x : LineState) : x.code.setWidth 16 =
    (match x with | .static => 0 | .pulsing => 1 | .deferred => 2 | .gap => 3 : BitVec 16) := by cases x <;> rfl

/-- A level request is never a collision (R98). -/
theorem State.outCommand_level {k : RequestKind} (hk : k ≠ .pulse) : s.outCommand k l =
    State.complete .ok ((s.line l).state.code.setWidth 16) 0 { s with lines := s.lines.set l ((s.line l).take k) } := by
  have quiet : (s.line l).collides k = false := by simp [Line.collides, hk]
  simp only [State.outCommand, State.request, quiet]
  rfl

end

/-- Settles O31. -/
theorem levelRequestsSetTheStaticLevel : Obligations.LevelRequestsSetTheStaticLevel := by
  intro l s x before levelled
  have code : (s.line l).state.code.setWidth 16 = before := LineState.code_setWidth _
  refine ⟨fun hw => ?_, fun hw => ?_, fun hw => ?_⟩
  · rw [hw.exec_outSet, State.outCommand_level (k := .set) nofun, code]
    rfl
  · rw [hw.exec_outClear, State.outCommand_level (k := .clear) nofun, code]
    rfl
  · rw [hw.exec_outToggle, State.outCommand_level (k := .toggle) nofun, code]
    rfl

/-- Settles O32. -/
theorem pulseRequestStartsOrCollides : Obligations.PulseRequestStartsOrCollides := by
  intro l s hw x full
  refine ⟨fun hx => ?_, fun hx => ⟨x.collide, ?_, ?_, fun hs hp => ?_, fun hs hp => ?_, fun hdrop => ?_⟩⟩
  · have quiet : (s.line l).collides .pulse = false := by simp [Line.collides, show (s.line l).state = _ from hx]
    rw [hw.exec_outPulse]
    simp only [State.outCommand, State.request, quiet, Line.take,
      show (s.line l).state = .static from hx]
    rfl
  · have collides : (s.line l).collides .pulse = true := by simp [Line.collides, show (s.line l).state ≠ _ from hx]
    rw [hw.exec_outPulse]
    simp only [State.outCommand, State.request, collides, Line.take, if_neg (show (s.line l).state ≠ .static from hx),
      LineState.code_setWidth]
    rfl
  · have count : x.collide.collisions = satInc x.collisions := by
      unfold Line.collide
      split <;> rfl
    rw [count]
    exact satInc_toNat _ (by decide)
  · simp only [Line.collide, hs, hp]
    rfl
  · simp only [Line.collide, hs, hp]
  · unfold Line.collide
    split
    · rename_i hs hp
      simp [hs, hp] at hdrop
    · rename_i hs hp
      simp [hs, hp] at hdrop
    · rfl

/-! ## Timers -/

section
variable {s : State} {l : LineNo}

theorem exec_widthExpiry_of_over (hr : s.inReset = false) (h : (s.line l).widthTimer = some 0) :
    exec (.widthExpiry l) s = .next (s.expireWidth l) := by
  rw [exec_of_running (.widthExpiry l) hr nofun]
  exact congrArg _ (if_pos (decide_eq_true h))

theorem exec_gapExpiry_of_over (hr : s.inReset = false) (h : (s.line l).gapTimer = some 0) :
    exec (.gapExpiry l) s = .next (s.expireGap l) := by
  rw [exec_of_running (.gapExpiry l) hr nofun]
  exact congrArg _ (if_pos (decide_eq_true h))

/-- The gap timer of a sound line runs in GAP alone (R90). -/
theorem Line.Sound.gap_of_timer {x : Line} (h : x.Sound) {k : Nat} (hg : x.gapTimer = some k) : x.state = .gap := by
  obtain ⟨_, _, ht⟩ := h
  cases hs : x.state with
  | gap => rfl
  | static => rw [hs] at ht; rw [ht.2] at hg; cases hg
  | pulsing => rw [hs] at ht; rw [ht.2] at hg; cases hg
  | deferred => rw [hs] at ht; rw [ht.2] at hg; cases hg

end

/-- Settles O33. -/
theorem timersOfALineExpire : Obligations.TimersOfALineExpire := by
  intro l s hr hsound x
  refine ⟨fun hw => ⟨fun hx => ?_, fun hx => ?_⟩, fun hg => ?_⟩
  · rw [exec_widthExpiry_of_over hr hw]
    simp only [State.expireWidth, Line.expireWidth, show (s.line l).state = _ from hx]
    rfl
  · rw [exec_widthExpiry_of_over hr hw]
    simp only [State.expireWidth, Line.expireWidth, show (s.line l).state = _ from hx]
    rfl
  · rw [exec_gapExpiry_of_over hr hg, State.expireGap, Line.expireGap, if_pos (hsound.gap_of_timer hg)]
    rfl

/-- Settles O35. -/
theorem countersAreReturnedAndClearedByTheirRead : Obligations.CountersAreReturnedAndClearedByTheirRead := fun _ hr =>
  ⟨fun l => exec_of_running (.collisionCounterRead l) hr nofun, exec_of_running .addsCounterRead hr nofun,
    exec_of_running .skipsCounterRead hr nofun, exec_of_running .overwriteCountRead hr nofun⟩

end Sys2Proof.Machine
end

section
/-! The index unit and the triggers (R77 to R83, R108 to R115). -/
namespace Sys2Proof.Machine

/-! ## The qualification of an index -/

section
variable (x : Axis)

theorem Axis.activeEdge_iff :
    x.activeEdge = true ↔ (x.filterZ.level = true ↔ x.config.indexPolarity = .highGoing) := by
  unfold Axis.activeEdge
  cases x.config.indexPolarity <;> simp

theorem Axis.gatePhasePasses_iff : x.gatePhasePasses = true ↔
    ∀ p, x.config.gatePhase = some p → p = { a := x.filterA.level, b := x.filterB.level } := by
  unfold Axis.gatePhasePasses
  cases x.config.gatePhase with
  | none => simp
  | some p =>
    simp only [Bool.and_eq_true, decide_eq_true_eq, Option.some.injEq]
    refine ⟨fun ⟨ha, hb⟩ q hq => ?_, fun h => ?_⟩
    · rw [ha, hb, hq]
    · rw [h p rfl]
      exact ⟨rfl, rfl⟩

theorem Axis.qualifiedIndex_iff : x.qualifiedIndex = true ↔
    x.state = .counting ∧ (x.filterZ.level = true ↔ x.config.indexPolarity = .highGoing) ∧
    (∀ p, x.config.gatePhase = some p → p = { a := x.filterA.level, b := x.filterB.level }) ∧
    (x.config.indexDirection = .any ∨
      x.config.indexDirection = (match x.direction with | .forward => .forward | .reverse => .reverse)) := by
  simp only [Axis.qualifiedIndex, Bool.and_eq_true, decide_eq_true_eq, and_assoc]
  exact and_congr_right' (and_congr x.activeEdge_iff (and_congr x.gatePhasePasses_iff (Qualifier.accepts_iff _ _)))

end

/-- The aux of an INDEX record shows A and B as a number (R80). -/
theorem LinePair.code_setWidth (a b : Bool) :
    (({ a := a, b := b } : LinePair).code).setWidth 16 = BitVec.ofNat 16 (2 * a.toNat + b.toNat) := by
  revert a b; decide

/-! ## The change of Z -/

section
variable {s : State}

theorem exec_indexEdge (hr : s.inReset = false) (e : AxisEvent) : exec (.indexEdge e) s = .next (s.takeZChange e) :=
  exec_of_running (.indexEdge e) hr nofun

theorem State.takeZChange_of_none (e : AxisEvent) (h : (s.axis e.axis).zChanged = false) :
    s.takeZChange e = s.perform e.between := if_neg (by simp [h])

theorem State.takeZChange_of_unqualified (e : AxisEvent) (h : (s.axis e.axis).zChanged = true)
    (hq : ¬ (s.axis e.axis).qualifiedIndex = true) :
    s.takeZChange e = (s.setAxis e.axis { s.axis e.axis with zChanged := false }).perform e.between :=
  (if_pos h).trans (if_neg hq)

theorem State.takeZChange_of_qualified (e : AxisEvent) (h : (s.axis e.axis).zChanged = true)
    (hq : (s.axis e.axis).qualifiedIndex = true) :
    s.takeZChange e = (s.setAxis e.axis { s.axis e.axis with zChanged := false }).takeIndex e.axis e.between :=
  (if_pos h).trans (if_pos hq)

/-- The state between the INDEX record and a homing load (R80, R149). -/
def State.indexed (n : AxisNo) (h : Option HostAction) (s : State) : State :=
  (s.offerIf (s.axis n).config.recordIndex (.indexUnit n) (s.indexRecord n)).perform h

theorem State.takeIndex_eq (n : AxisNo) (h : Option HostAction) :
    s.takeIndex n h = if (s.axis n).homing = .seeking then (s.indexed n h).homingLoad n else s.indexed n h := rfl

theorem State.indexed_axes (n : AxisNo) (h : Option HostAction) : (s.indexed n h).axes = s.axes := by
  rw [State.indexed, State.perform_axes, State.offerIf_axes]

end

/-- Settles O29. -/
theorem indexEdgeQualifiesAndHomes : Obligations.IndexEdgeQualifiesAndHomes := by
  intro n h s hr x done pair qualified revolution taken indexed
  have qualifies : x.qualifiedIndex = true ↔ qualified := x.qualifiedIndex_iff
  have axis : taken.axis n = { x with zChanged := false } := s.setAxis_axis_self n _
  have indexed_eq : taken.indexed n h = indexed := by
    have aux := LinePair.code_setWidth x.filterA.level x.filterB.level
    simp only [State.indexed, State.offerIf, State.indexRecord, axis]
    rw [aux]
    rfl
  have after : done = .next (s.takeZChange { axis := n, between := h }) := exec_indexEdge hr _
  rw [after]
  refine ⟨fun hz => ?_, fun hz hq => ?_, fun hz hq hs => ?_, fun hz hq hs => ?_⟩
  · rw [State.takeZChange_of_none { axis := n, between := h } hz]
  · rw [State.takeZChange_of_unqualified { axis := n, between := h } hz fun hq' => hq (qualifies.mp hq')]
    rfl
  · rw [State.takeZChange_of_qualified { axis := n, between := h } hz (qualifies.mpr hq)]
    show Host.Outcome.next (taken.takeIndex n h) = _
    rw [State.takeIndex_eq, if_neg (by rw [axis]; exact hs), indexed_eq]
  · rw [State.takeZChange_of_qualified { axis := n, between := h } hz (qualifies.mpr hq)]
    show Host.Outcome.next (taken.takeIndex n h) = _
    have axes : indexed.axes = taken.axes := by rw [← indexed_eq]; exact taken.indexed_axes n h
    have axis' : indexed.axis n = { x with zChanged := false } := by
      rw [State.axis, axes]
      exact axis
    rw [State.takeIndex_eq, if_pos (by rw [axis]; exact hs), indexed_eq, State.homingLoad]
    have homed : ∀ y, indexed.setAxis n y = { indexed with axes := s.axes.set n y } := fun y => by
      rw [State.setAxis, axes]
      exact congrArg (fun v => { indexed with axes := v }) (Vector.set_set ..)
    rw [axis']
    simp only [homed]
    refine congrArg (fun c => Host.Outcome.next (State.offer _ c _)) ?_
    rfl

/-! ## Triggers -/

section
variable {s : State} {n : TriggerNo}

theorem exec_triggerLevelChange (hr : s.inReset = false) :
    exec (.triggerLevelChange n) s = .next (s.takeLevelChange n) := exec_of_running (.triggerLevelChange n) hr nofun

theorem Trigger.isEdge_iff (x : Trigger) : x.isEdge = true ↔
    (x.edge = .rise ∧ x.filter.level = true) ∨ (x.edge = .fall ∧ x.filter.level = false) ∨ x.edge = .both := by
  unfold Trigger.isEdge
  cases x.edge <;> simp

/-- The trigger has handed its new level on (R115). -/
def State.handOn (n : TriggerNo) (s : State) : State := s.setTrigger n { s.trigger n with changed := false }

theorem State.handOn_trigger : (s.handOn n).trigger n = { s.trigger n with changed := false } := s.setTrigger_trigger_self n _

theorem State.takeLevelChange_of_none (h : (s.trigger n).changed = false) : s.takeLevelChange n = s :=
  if_neg (by simp [h])

theorem State.takeLevelChange_of_changed (h : (s.trigger n).changed = true) : s.takeLevelChange n =
    if (s.trigger n).isEdge then (s.handOn n).takeEdge n else s.handOn n := if_pos h

theorem State.takeEdge_holdoff (h : (s.trigger n).state = .holdoff) :
    s.takeEdge n = s.setTrigger n { s.trigger n with suppressed := satInc (s.trigger n).suppressed } := by
  simp only [State.takeEdge, h]

theorem State.takeEdge_ready (h : (s.trigger n).state = .ready) : s.takeEdge n = s.readyEdge n := by
  simp only [State.takeEdge, h]

/-- A level change writes the trigger of its change, with the filter as it is and no change untaken (R115). -/
theorem State.takeLevelChange_trigger (h : (s.trigger n).changed = true) :
    ((s.takeLevelChange n).trigger n).filter = (s.trigger n).filter ∧
    ((s.takeLevelChange n).trigger n).changed = false := by
  have handed := s.handOn_trigger (n := n)
  rw [State.takeLevelChange_of_changed h]
  split
  · cases hs : ((s.handOn n).trigger n).state with
    | holdoff =>
      rw [State.takeEdge_holdoff hs, State.setTrigger_trigger_self, handed]
      exact ⟨rfl, rfl⟩
    | ready =>
      have holdoff : ((s.handOn n).readyEdge n).trigger n = ((s.handOn n).trigger n).startHoldoff :=
        State.setTrigger_trigger_self _ _ _
      rw [State.takeEdge_ready hs, holdoff, handed, Trigger.startHoldoff]
      split <;> exact ⟨rfl, rfl⟩
  · rw [handed]
    exact ⟨rfl, rfl⟩

end

/-- Settles O36. -/
theorem triggerEdgeActsInReadyAndIsCountedInHoldoff : Obligations.TriggerEdgeActsInReadyAndIsCountedInHoldoff := by
  intro n s hr x level edge done
  have after : done = .next (s.takeLevelChange n) := exec_triggerLevelChange hr
  have handed : (s.handOn n).trigger n = { x with changed := false } := s.handOn_trigger
  rw [after]
  refine ⟨fun hc => ?_, fun hc => ⟨?_, _, rfl, ?_⟩, fun hc he => ?_, fun hc he hs => ⟨_, satInc_toNat x.suppressed (by decide), ?_⟩,
    fun hc he hs => ?_⟩
  · rw [State.takeLevelChange_of_none hc]
  · simp [Trigger.level, hc, level]
  · obtain ⟨filter, changed⟩ := State.takeLevelChange_trigger hc
    have new : ((s.takeLevelChange n).trigger n).level = level := by
      rw [Trigger.level, filter, changed, Bool.bne_false]
    have old : (s.trigger n).level = !level := by
      rw [Trigger.level, show (s.trigger n).changed = true from hc, Bool.bne_true]
    refine ⟨new, fun high => ⟨?_, ?_⟩⟩
    · simp only [State.gateOpen, new]
      rfl
    · simp only [State.gateOpen, old]
      cases level <;> cases high <;> rfl
  · rw [State.takeLevelChange_of_changed hc, if_neg fun h => he (x.isEdge_iff.mp h)]
    rfl
  · rw [State.takeLevelChange_of_changed hc, if_pos (x.isEdge_iff.mpr he), State.takeEdge_holdoff (by rw [handed]; exact hs),
      handed]
    exact congrArg (fun v => Host.Outcome.next { s with triggers := v }) (Vector.set_set ..)
  · intro r q y
    rw [State.takeLevelChange_of_changed hc, if_pos (x.isEdge_iff.mpr he), State.takeEdge_ready (by rw [handed]; exact hs)]
    have record : (s.handOn n).triggerRecord n =
        { cause := .trigger, stamp := x.sampledAt,
          gang := some { positions := s.axes.map (fun y => if y.state = .stopped then none else some y.position) },
          aux := some (BitVec.ofNat 16 (256 * n.val + x.suppressed.toNat)) } := by
      rw [State.triggerRecord, handed, State.gang_eq]
      rfl
    have offered : (s.handOn n).offerIf x.snap (.trigger n) ((s.handOn n).triggerRecord n) =
        { r with triggers := (s.handOn n).triggers } := by
      rw [record]
      simp only [r]
      cases x.snap <;> rfl
    have sent : (if x.pulseEnable then State.request x.pulseLine .pulse { r with triggers := (s.handOn n).triggers }
        else { r with triggers := (s.handOn n).triggers }) = { q with triggers := (s.handOn n).triggers } := by
      simp only [q]
      cases x.pulseEnable <;> rfl
    have holdoff : ({ x with changed := false } : Trigger).startHoldoff = y := by
      simp only [Trigger.startHoldoff, y]
      split <;> rfl
    rw [State.readyEdge]
    simp only [handed]
    rw [offered, sent, holdoff]
    exact congrArg (fun v => Host.Outcome.next { q with triggers := v }) (Vector.set_set ..)

/-! ## The holdoff and the two writes -/

section
variable (d : Halfword)

theorem EdgeSelect.ofCode_field : EdgeSelect.ofCode (field d 0 2) =
    (match d.toNat % 4 with | 0 => .off | 1 => .rise | 2 => .fall | _ => .both) := by
  have codes : ∀ c : BitVec 2, EdgeSelect.ofCode c =
      (match c.toNat with | 0 => .off | 1 => .rise | 2 => .fall | _ => .both) := by decide
  have hfield : (field d 0 2).toNat = d.toNat % 4 := by rw [toNat_field]; omega
  rw [codes, hfield]

theorem SampleClock.ofCode_field : SampleClock.ofCode (field d 6 2) =
    (match (d.toNat / 64) % 4 with | 0 => .div1 | 1 => .div8 | 2 => .div64 | _ => .div512) := by
  have codes : ∀ c : BitVec 2, SampleClock.ofCode c =
      (match c.toNat with | 0 => .div1 | 1 => .div8 | 2 => .div64 | _ => .div512) := by decide
  have hfield : (field d 6 2).toNat = d.toNat / 64 % 4 := toNat_field d 6 2
  rw [codes, hfield]

end

/-- Settles O37. -/
theorem holdoffEndsAndTriggerWritesAreStored : Obligations.HoldoffEndsAndTriggerWritesAreStored := by
  intro n s hr x
  refine ⟨fun ht => ?_, fun d => ⟨exec_of_running (.holdoffWrite n d) hr nofun, x.writeConfig d,
    exec_of_running (.triggerConfigWrite n d) hr nofun, rfl, EdgeSelect.ofCode_field d, toNat_field d 2 4,
    SampleClock.ofCode_field d, ?_, rfl, rfl⟩⟩
  · rw [exec_of_running (.holdoffExpiry n) hr nofun]
    exact congrArg _ (if_pos (decide_eq_true ht))
  · have line : (field d 10 3).toNat = d.toNat / 1024 % 8 := toNat_field d 10 3
    show (field d 10 3).toNat % 8 = _
    rw [line, Nat.mod_mod]

end Sys2Proof.Machine
end

section
/-! The writes of the timebase and the SYNC edge (R123, R127 to R129). -/
namespace Sys2Proof.Machine

/-! ## The trim mode -/

section
variable {s : State} (d : Halfword)

/-- The codes of the trim mode (R193). -/
theorem TrimMode.ofCode_toNat (c : BitVec 2) :
    (c.toNat = 0 → TrimMode.ofCode c = some .off) ∧ (c.toNat = 1 → TrimMode.ofCode c = some .add) ∧
    (c.toNat = 2 → TrimMode.ofCode c = some .skip) ∧ (c.toNat = 3 → TrimMode.ofCode c = none) := by
  revert c; decide

theorem exec_trimModeWrite (hr : s.inReset = false) : exec (.trimModeWrite d) s = .next (s.writeTrimMode d) :=
  exec_of_running (.trimModeWrite d) hr nofun

theorem Timebase.stagedValid_iff (b : Timebase) :
    b.stagedValid = true ↔ 16 ≤ b.stagedInterval.toNat ∧ b.stagedInterval.toNat ≤ 16777216 := by
  simp only [Timebase.stagedValid, Bool.and_eq_true, decide_eq_true_eq]
  exact Iff.rfl

theorem Timebase.writeTrimMode_off {b : Timebase} (h : TrimMode.ofCode (field d 0 2) = some .off) :
    b.writeTrimMode d =
      { b with trimMode := .off, intervalCount := 0, interval := if b.stagedValid then b.stagedInterval else b.interval } := by
  rw [Timebase.writeTrimMode, h]

/-- ADD and SKIP take the staged interval when it is valid, and are ignored when it is not. -/
theorem Timebase.writeTrimMode_on {b : Timebase} {m : TrimMode} (h : TrimMode.ofCode (field d 0 2) = some m)
    (hm : m ≠ .off) : b.writeTrimMode d =
      if b.stagedValid then { b with trimMode := m, interval := b.stagedInterval, intervalCount := 0 } else b := by
  rw [Timebase.writeTrimMode, h]
  cases m with
  | off => exact absurd rfl hm
  | add => rfl
  | skip => rfl

theorem Timebase.writeTrimMode_none {b : Timebase} (h : TrimMode.ofCode (field d 0 2) = none) : b.writeTrimMode d = b := by
  rw [Timebase.writeTrimMode, h]

end

/-- Settles O42: the write by the four codes of its field. -/
theorem trimAndSyncWritesAreJudged : Obligations.TrimAndSyncWritesAreJudged := by
  intro d s hr b valid written
  have hfield : (field d 0 2).toNat = d.toNat % 4 := by
    rw [toNat_field]
    omega
  have valid_iff : b.stagedValid = true ↔ valid := b.stagedValid_iff
  obtain ⟨off, add, skip, other⟩ := TrimMode.ofCode_toNat (field d 0 2)
  rw [hfield] at off add skip other
  have stored : ∀ t : Timebase, b.writeTrimMode d = t → exec (.trimModeWrite d) s = .next { s with timebase := t } :=
    fun t ht => (exec_trimModeWrite d hr).trans (by rw [State.writeTrimMode, ht]; rfl)
  refine ⟨fun h0 => ?_, fun h1 hv => ?_, fun h2 hv => ?_, fun h => ?_, exec_of_running (.syncConfigWrite d) hr nofun⟩
  · refine ⟨fun hv => stored _ ?_, fun hv => stored _ ?_⟩
    · rw [Timebase.writeTrimMode_off d (off h0), if_pos (valid_iff.mpr hv)]
    · rw [Timebase.writeTrimMode_off d (off h0), if_neg fun h => hv (valid_iff.mp h)]
  · refine stored _ ?_
    rw [Timebase.writeTrimMode_on d (add h1) nofun, if_pos (valid_iff.mpr hv)]
  · refine stored _ ?_
    rw [Timebase.writeTrimMode_on d (skip h2) nofun, if_pos (valid_iff.mpr hv)]
  · refine (stored b ?_).trans rfl
    obtain h3 | ⟨h0, hv⟩ := h
    · exact Timebase.writeTrimMode_none d (other h3)
    · have invalid : ¬ b.stagedValid = true := fun h => hv (valid_iff.mp h)
      obtain h1 | h2 | h3 : d.toNat % 4 = 1 ∨ d.toNat % 4 = 2 ∨ d.toNat % 4 = 3 := by omega
      · rw [Timebase.writeTrimMode_on d (add h1) nofun, if_neg invalid]
      · rw [Timebase.writeTrimMode_on d (skip h2) nofun, if_neg invalid]
      · exact Timebase.writeTrimMode_none d (other h3)

/-! ## The SYNC edge -/

section
variable {s : State}

theorem exec_syncEdge (hr : s.inReset = false) : exec .syncEdge s = .next s.takeSyncChange :=
  exec_of_running .syncEdge hr nofun

theorem Timebase.isEdge_iff (b : Timebase) : b.isEdge = true ↔ (b.filter.level = true ↔ b.syncEdge = .rise) := by
  unfold Timebase.isEdge
  cases b.syncEdge <;> simp

/-- The timebase has taken the change of the SYNC level. -/
def State.takenSync (s : State) : State := s.setTimebase { s.timebase with changed := false }

theorem State.takeSyncChange_of_none (h : s.timebase.changed = false) : s.takeSyncChange = s := if_neg (by simp [h])

theorem State.takeSyncChange_of_changed (h : s.timebase.changed = true) :
    s.takeSyncChange = if s.timebase.isEdge then s.takenSync.takeSync else s.takenSync := if_pos h

theorem State.takeSync_free (h : s.timebase.syncState = .free) : s.takeSync =
    s.offerIf (s.timebase.syncMode = .capture) .timebase { cause := .sync, stamp := s.now } := by
  simp only [State.takeSync, h]

theorem State.takeSync_armed (h : s.timebase.syncState = .armed) : s.takeSync = s.armedLoad := by
  simp only [State.takeSync, h]

end

/-- Settles O44. -/
theorem syncEdgeCapturesOrLoads : Obligations.SyncEdgeCapturesOrLoads := by
  intro s hr b edge taken
  have edge_iff : b.isEdge = true ↔ edge := b.isEdge_iff
  rw [exec_syncEdge hr]
  refine ⟨fun hc => ?_, fun hc h => ?_, fun hc he hs hm => ?_, fun hc he hs => ?_⟩
  · rw [State.takeSyncChange_of_none hc]
  · rw [State.takeSyncChange_of_changed hc]
    split
    · rename_i he
      obtain hne | ⟨hs, hm⟩ := h
      · exact absurd (edge_iff.mp he) hne
      · have off : (s.takenSync.timebase.syncMode = .capture) = False := by
          rw [show s.takenSync.timebase.syncMode = .off from hm]
          simp
        rw [State.takeSync_free (s := s.takenSync) hs]
        simp only [off, decide_false]
        rfl
    · rfl
  · have on : s.takenSync.timebase.syncMode = .capture := hm
    rw [State.takeSyncChange_of_changed hc, if_pos (edge_iff.mpr he), State.takeSync_free (s := s.takenSync) hs, decide_eq_true on]
    rfl
  · rw [State.takeSyncChange_of_changed hc, if_pos (edge_iff.mpr he), State.takeSync_armed (s := s.takenSync) hs, State.armedLoad,
      State.loadTime_eq]
    rfl

end Sys2Proof.Machine
end

section
/-! The interrupt unit and the register window (R123, R150, R151, R162, R174 to R179, R183, R185 to R189). -/
namespace Sys2Proof.Machine

/-! ## Flags, enables and IRQn -/

/-- Every position of FLAGS but that of JRNL_READY holds a sticky flag. -/
theorem Flag.exists_number (i : Nat) (hi : i < 15) (hne : i ≠ readyNumber) : ∃ f : Flag, f.number = i := by
  have hready : readyNumber = 3 := rfl
  by_cases h11 : 11 ≤ i
  · exact ⟨.schedDry ⟨i - 11, by omega⟩, by simp only [Flag.number]; omega⟩
  · by_cases h7 : 7 ≤ i
    · exact ⟨.axFault ⟨i - 7, by omega⟩, by simp only [Flag.number]; omega⟩
    · obtain rfl | rfl | rfl | rfl | rfl | rfl : i = 0 ∨ i = 1 ∨ i = 2 ∨ i = 4 ∨ i = 5 ∨ i = 6 := by omega
      · exact ⟨.cmdDone, rfl⟩
      · exact ⟨.cmdErr, rfl⟩
      · exact ⟨.cmdOverrun, rfl⟩
      · exact ⟨.jrnlLoss, rfl⟩
      · exact ⟨.syncDone, rfl⟩
      · exact ⟨.outCollide, rfl⟩

section
variable (s : State)

/-- The bits that FLAGS presents (R175, R176). -/
theorem State.flagsWord_getLsbD (i : Nat) (hi : i < 15) : s.flagsWord.getLsbD i =
    if i = readyNumber then s.journalReady else s.interrupts.flags.getLsbD i := by
  have ready : (if s.journalReady = true then BitVec.twoPow 15 readyNumber else 0).getLsbD i =
      (s.journalReady && decide (i = readyNumber)) := by
    cases s.journalReady <;> simp [hi]
  rw [State.flagsWord, BitVec.getLsbD_or, ready]
  by_cases h : i = readyNumber <;> simp [h, hi]

theorem State.irqnLow_iff : s.irqnLow = true ↔
    ∃ i, i < 15 ∧ s.flagsWord.getLsbD i = true ∧ s.interrupts.enables.getLsbD i = true := by
  have zero : s.flagsWord &&& s.interrupts.enables = 0 ↔
      ∀ i, i < 15 → (s.flagsWord.getLsbD i && s.interrupts.enables.getLsbD i) = false := by
    rw [BitVec.eq_of_getLsbD_eq_iff]
    simp
  rw [State.irqnLow, decide_eq_true_eq, ne_eq, zero]
  push Not
  simp

end

/-- Settles O51: the word of FLAGS bit by bit. -/
theorem flagsAndEnablesMakeTheInterrupt : Obligations.FlagsAndEnablesMakeTheInterrupt := by
  intro d s hr hsound
  refine ⟨⟨_, exec_of_running (.flagsWrite d) hr nofun, rfl, rfl, fun f => Interrupts.clear_isSet f _ d, rfl⟩,
    ⟨_, exec_of_running (.enableWrite d) hr nofun, rfl, fun i hi => ?_⟩, ?_⟩
  · show (d.setWidth 15).getLsbD i = _
    simp [hi]
  · rw [s.irqnLow_iff]
    constructor
    · rintro ⟨i, hi, hf, he⟩
      rw [s.flagsWord_getLsbD i hi] at hf
      split at hf
      · subst i; exact .inr ⟨hf, he⟩
      · obtain ⟨f, rfl⟩ := Flag.exists_number i hi ‹_›
        exact .inl ⟨f, hf, he⟩
    · rintro (⟨f, hf, he⟩ | ⟨hready, he⟩)
      · refine ⟨f.number, f.number_lt, ?_, he⟩
        rw [s.flagsWord_getLsbD _ f.number_lt, if_neg f.number_ne_ready]
        exact hf
      · refine ⟨readyNumber, by decide, ?_, he⟩
        rw [s.flagsWord_getLsbD _ (by decide), if_pos rfl]
        exact hready

/-! ## Coherent reads and the view -/

/-- Settles O53. -/
theorem lowReadsCaptureTheWholeValue : Obligations.LowReadsCaptureTheWholeValue := by
  intro s hr
  refine ⟨fun n => ⟨_, exec_of_running (.positionLowRead n) hr nofun, rfl, rfl, ?_, ?_⟩,
    _, exec_of_running .timeLowRead hr nofun, rfl, rfl, rfl, rfl⟩
  · simp [event, Window.read, State.readPosition, Window.present, State.axisWindow, State.drive, State.setBus, halfOf]
  · simp [event, Window.read, State.readPosition, Window.present, State.axisWindow, State.drive, State.setBus]

/-- Settles O49. -/
theorem viewIsReadThroughItsPointer : Obligations.ViewIsReadThroughItsPointer := by
  intro s hr j
  refine ⟨fun hp => ⟨j.viewData, ?_, fun h => ?_, fun h => ?_⟩, fun d => ⟨fun hd => ?_, fun hd => ?_⟩⟩
  · have pointer : min (j.viewPointer + 1) Config.viewCapacity = if j.viewPointer = 32 then 32 else j.viewPointer + 1 := by
      have : Config.viewCapacity = 32 := rfl
      split <;> omega
    rw [← pointer]
    exact exec_of_running .viewDataRead hr nofun
  · simp [Journal.viewData, h]
  · simp [Journal.viewData, h]
  · have hfield : (field d 0 6).toNat = d.toNat % 64 := by rw [toNat_field]; omega
    rw [← hfield] at hd ⊢
    exact (exec_of_running (.viewPointerWrite d) hr nofun).trans (congrArg _ (if_pos hd))
  · have hfield : (field d 0 6).toNat = d.toNat % 64 := by rw [toNat_field]; omega
    rw [← hfield] at hd
    exact (exec_of_running (.viewPointerWrite d) hr nofun).trans (congrArg _ (if_neg (Nat.not_le.mpr hd)))

/-! ## The rows of the accesses -/

/-- The locations whose write is the REGISTER_WRITE row, but for the reader actions of JCTRL (R185). -/
def Location.writesPlain : Location → Bool
  | .flags | .enable | .cmd | .stageSel | .staged _ | .axisStaging _ | .lineConfig _ | .lineWidth _ | .triggerConfig _
  | .holdoff _ | .syncConfig | .trimMode | .jctrl | .jcfg | .jhold | .viewPointer => false
  | .arg _ | .interval _ | .id | .pool | .cmdStatus | .cmdDetail | .cmdAux | .axisWindow _ _ | .collisions _ | .time _ | .adds
  | .skips | .jstate | .overwriteCount | .pendingLoss | .viewData => true

/-- The well-formed addresses of REGISTER_WRITE are those without another row. -/
theorem plainRegister_eq (a : Address) : plainRegister a = (locationAt a).all Location.writesPlain := by
  revert a; decide

/-- The address of JCTRL, of an argument and of an interval half is the one of the map. -/
def Location.addressFits (a : Address) : Location → Bool
  | .jctrl => a == 0x70
  | .arg k => a == BitVec.ofNat 7 (8 + k.val)
  | .interval high => a == if high then 0x66 else 0x65
  | _ => true

theorem addressFits_of_locationAt {a : Address} {l : Location} (h : locationAt a = some l) : l.addressFits a = true := by
  have all : ∀ a, (locationAt a).all (Location.addressFits a) = true := by decide
  have := all a
  rwa [h] at this

theorem eq_of_locationAt_jctrl (a : Address) (h : locationAt a = some .jctrl) : a = 0x70 :=
  beq_iff_eq.mp (addressFits_of_locationAt h)

theorem eq_of_locationAt_arg (a : Address) (k : Fin 4) (h : locationAt a = some (.arg k)) :
    a = BitVec.ofNat 7 (8 + k.val) :=
  beq_iff_eq.mp (addressFits_of_locationAt h)

theorem locationAt_jctrl : locationAt 0x70 = some .jctrl := by decide

theorem eq_of_locationAt_interval (a : Address) (high : Bool) (h : locationAt a = some (.interval high)) :
    a = if high then 0x66 else 0x65 :=
  beq_iff_eq.mp (addressFits_of_locationAt h)

/-- A write to JCTRL that names no reader action is a well-formed REGISTER_WRITE (R148). -/
theorem wellFormed_jctrlWrite (d : Halfword) (h1 : d ≠ 1) (h2 : d ≠ 2) (h3 : d ≠ 3) :
    (Instr.registerWrite 0x70 d).wellFormed = true := by
  have hcode : readerActionCode d = false := by
    rw [readerActionCode, decide_eq_false h1, decide_eq_false h2, decide_eq_false h3]; rfl
  rw [Instr.wellFormed, hcode]; rfl

/-- A write of no reader action to JCTRL does nothing (R148). -/
theorem State.writeControl_of_no_action (d : Halfword) (s : State) (h : readerActionCode d = false) :
    s.writeControl d = s := by
  simp only [readerActionCode, Bool.or_eq_false_iff, decide_eq_false_iff_not] at h
  obtain ⟨⟨h1, h2⟩, h3⟩ := h
  rw [State.writeControl, if_neg h1, if_neg h2, if_neg h3]

/-- A write row is well formed and does what the write does at the window (R185, R189). -/
theorem Location.writeCommand_row (l : Location) (a : Address) (d : Halfword) (s : State) (ha : locationAt a = some l)
    (hr : s.inReset = false) :
    (l.writeCommand a d).wellFormed = true ∧ exec (l.writeCommand a d) s = .next (Window.writeAt a d s) := by
  have written : Window.writeAt a d s = Window.write l d s := by rw [Window.writeAt, ha]
  have register : exec (.registerWrite a d) s = .next (Window.writeAt a d s) :=
    exec_of_running (.registerWrite a d) hr nofun
  have plain : plainRegister a = l.writesPlain := by rw [plainRegister_eq, ha]; rfl
  have row : ∀ c : Instr, c.wellFormed = true → c ≠ .appendStep → event c s = Window.write l d s →
      c.wellFormed = true ∧ exec c s = .next (Window.writeAt a d s) := fun c hw hc he =>
    ⟨hw, by rw [exec_of_running c hr hc, he, written]⟩
  have wellFormed : l.writesPlain = true → (Instr.registerWrite a d).wellFormed = true := fun hl => by
    simp [Instr.wellFormed, plain, hl]
  cases l
  case jctrl =>
    obtain rfl := eq_of_locationAt_jctrl a ha
    by_cases h1 : d = 1
    · subst h1; exact row .readerOpen rfl nofun rfl
    · by_cases h2 : d = 2
      · subst h2; exact row .readerRelease rfl nofun rfl
      · by_cases h3 : d = 3
        · subst h3; exact row .readerDiscard rfl nofun rfl
        · have plainWrite : Location.jctrl.writeCommand 0x70 d = .registerWrite 0x70 d := by
            simp only [Location.writeCommand, if_neg h1, if_neg h2, if_neg h3]
          rw [plainWrite]
          exact ⟨wellFormed_jctrlWrite d h1 h2 h3, register⟩
  case flags => exact row (.flagsWrite d) rfl nofun rfl
  case enable => exact row (.enableWrite d) rfl nofun rfl
  case cmd => exact row (.commandWrite d) rfl nofun rfl
  case stageSel => exact row (.stageSelWrite d) rfl nofun rfl
  case staged k => exact row (.stagedEntryWrite k d) rfl nofun rfl
  case axisStaging k => exact row (.axisStagingWrite k d) rfl nofun rfl
  case lineConfig i => exact row (.lineConfigWrite i d) rfl nofun rfl
  case lineWidth i => exact row (.widthWrite i d) rfl nofun rfl
  case triggerConfig n => exact row (.triggerConfigWrite n d) rfl nofun rfl
  case holdoff n => exact row (.holdoffWrite n d) rfl nofun rfl
  case syncConfig => exact row (.syncConfigWrite d) rfl nofun rfl
  case trimMode => exact row (.trimModeWrite d) rfl nofun rfl
  case jcfg => exact row (.jcfgWrite d) rfl nofun rfl
  case jhold => exact row (.jholdWrite d) rfl nofun rfl
  case viewPointer => exact row (.viewPointerWrite d) rfl nofun rfl
  all_goals exact ⟨wellFormed rfl, register⟩

/-- A read row does what the read does at the window (R183, R189). -/
theorem Location.readCommand_row (l : Location) (c : Instr) (s : State) (hc : l.readCommand = some c)
    (hr : s.inReset = false) : exec c s = .next (Window.read l s) := by
  unfold Location.readCommand at hc
  split at hc
  case h_1 n => obtain rfl := Option.some.inj hc; exact exec_of_running (.positionLowRead n) hr nofun
  case h_2 => obtain rfl := Option.some.inj hc; exact exec_of_running .timeLowRead hr nofun
  case h_3 i => obtain rfl := Option.some.inj hc; exact exec_of_running (.collisionCounterRead i) hr nofun
  case h_4 => obtain rfl := Option.some.inj hc; exact exec_of_running .addsCounterRead hr nofun
  case h_5 => obtain rfl := Option.some.inj hc; exact exec_of_running .skipsCounterRead hr nofun
  case h_6 => obtain rfl := Option.some.inj hc; exact exec_of_running .overwriteCountRead hr nofun
  case h_7 => obtain rfl := Option.some.inj hc; exact exec_of_running .viewDataRead hr nofun
  case h_8 => cases hc

/-- A location whose read has no row drives what it presents. -/
theorem Location.read_of_no_row (l : Location) (s : State) (hl : l.readCommand = none) :
    Window.read l s = s.drive (Window.present l s) := by
  unfold Location.readCommand at hl
  split at hl
  case h_8 => unfold Window.read; split <;> simp_all
  all_goals cases hl

/-- Settles O55. -/
theorem hostAccessesAreTheirRows : Obligations.HostAccessesAreTheirRows := by
  intro a s hr
  refine ⟨fun d c hc => ?_, fun c hc => ?_, fun hc => ?_⟩
  · obtain rfl := Option.some.inj hc
    cases ha : locationAt a with
    | none => exact ⟨by simp [Instr.wellFormed, plainRegister_eq, ha], exec_of_running (.registerWrite a d) hr nofun⟩
    | some l => exact l.writeCommand_row a d s ha hr
  · obtain ⟨l, ha, hl⟩ := Option.bind_eq_some_iff.mp hc
    rw [l.readCommand_row c s hl hr, Window.readAt, ha]
  · cases ha : locationAt a with
    | none => exact ⟨0, by rw [Window.readAt, ha]; rfl, nofun, fun _ => rfl⟩
    | some l =>
      have hl : l.readCommand = none := by
        rw [Access.command, ha] at hc
        exact hc
      refine ⟨Window.present l s, by rw [Window.readAt, ha]; exact l.read_of_no_row s hl, fun l' h => ?_, nofun⟩
      rw [Option.some.inj h]

/-- Settles O54. -/
theorem registerWriteStoresOrIsIgnored : Obligations.RegisterWriteStoresOrIsIgnored := by
  intro d s hr
  have register : ∀ a, exec (.registerWrite a d) s = .next (Window.writeAt a d s) := fun a =>
    exec_of_running (.registerWrite a d) hr nofun
  refine ⟨fun k => ?_, register 0x65, register 0x66, fun a hw harg hlow hhigh => ?_⟩
  · have at_arg : ∀ k : Fin 4, locationAt (BitVec.ofNat 7 (8 + k.val)) = some (.arg k) := by decide
    rw [register, Window.writeAt, at_arg]
    rfl
  · rw [register, Window.writeAt]
    cases ha : locationAt a with
    | none => rfl
    | some l =>
      rcases Bool.or_eq_true_iff.mp hw with hplain | hreader
      · rw [plainRegister_eq, ha] at hplain
        cases l
        case arg k => exact absurd (eq_of_locationAt_arg a k ha) (harg k)
        case interval high =>
          cases high
          · exact absurd (eq_of_locationAt_interval a false ha) hlow
          · exact absurd (eq_of_locationAt_interval a true ha) hhigh
        all_goals cases hplain <;> rfl
      · obtain ⟨haddress, hcode⟩ := Bool.and_eq_true_iff.mp hreader
        obtain rfl : a = 0x70 := of_decide_eq_true haddress
        obtain rfl := Option.some.inj (locationAt_jctrl.symm.trans ha)
        exact congrArg Host.Outcome.next (s.writeControl_of_no_action d (by simpa using hcode))

end Sys2Proof.Machine
end

section
/-! The encoding of a record (R194): the header as a sum, and the groups halfword by halfword. -/
namespace Sys2Proof.Machine

/-! ## Fields of a halfword as a sum -/

/-- A field put above what a halfword holds already adds its value at its place. -/
theorem toNat_or_place {w lo : Nat} (acc : Halfword) (x : BitVec w) (hacc : acc.toNat < 2 ^ lo) (hw : lo + w ≤ 16) :
    (acc ||| place x lo).toNat = acc.toNat + 2 ^ lo * x.toNat ∧ (acc ||| place x lo).toNat < 2 ^ (lo + w) := by
  have bound : 2 ^ lo * x.toNat + acc.toNat < 2 ^ (lo + w) := by
    have hx : x.toNat + 1 ≤ 2 ^ w := x.isLt
    calc 2 ^ lo * x.toNat + acc.toNat < 2 ^ lo * (x.toNat + 1) := by rw [Nat.mul_succ]; omega
      _ ≤ 2 ^ lo * 2 ^ w := Nat.mul_le_mul_left _ hx
      _ = 2 ^ (lo + w) := (Nat.pow_add 2 lo w).symm
  have placed : (place x lo).toNat = 2 ^ lo * x.toNat := by
    have fits : 2 ^ (lo + w) ≤ 2 ^ 16 := Nat.pow_le_pow_right (by decide) hw
    have narrow : 2 ^ w ≤ 2 ^ 16 := Nat.pow_le_pow_right (by decide) (by omega)
    rw [place, BitVec.toNat_shiftLeft, BitVec.toNat_setWidth, Nat.mod_eq_of_lt (lt_of_lt_of_le x.isLt narrow),
      Nat.shiftLeft_eq, Nat.mul_comm, Nat.mod_eq_of_lt (by omega)]
  have sum : (acc ||| place x lo).toNat = acc.toNat + 2 ^ lo * x.toNat := by
    rw [BitVec.toNat_or, placed, Nat.or_comm, ← Nat.two_pow_add_eq_or_of_lt hacc, Nat.add_comm]
  exact ⟨sum, by omega⟩

theorem toNat_or_placeBit {lo : Nat} (acc : Halfword) (b : Bool) (hacc : acc.toNat < 2 ^ lo) (hw : lo + 1 ≤ 16) :
    (acc ||| placeBit b lo).toNat = acc.toNat + (if b then 2 ^ lo else 0) ∧
      (acc ||| placeBit b lo).toNat < 2 ^ (lo + 1) := by
  obtain ⟨sum, bound⟩ := toNat_or_place acc (BitVec.ofBool b) hacc hw
  refine ⟨sum.trans ?_, bound⟩
  cases b <;> simp

/-- The number of a cause code (11 section 11.6.6). -/
def Cause.number : Cause → Nat
  | .index => 1 | .homed => 2 | .compare => 3 | .expired => 4 | .flushed => 5 | .phaseErr => 6 | .fault => 7
  | .wrap => 8 | .trigger => 9 | .snapshot => 10 | .sync => 11 | .timeset => 12 | .loss => 13

section
variable (c : Content)

/-- The header as the sum of its fields. -/
def Content.headerNumber : Nat :=
  c.cause.number + c.axis.elim 0 (fun n => 16 * n.val) + (if c.axis.isSome then 2 ^ 6 else 0) +
    (if c.position.isSome then 2 ^ 7 else 0) + (if c.revolution.isSome then 2 ^ 8 else 0) +
    (if c.gang.isSome then 2 ^ 9 else 0) + (if c.entry.isSome then 2 ^ 10 else 0) + (if c.aux.isSome then 2 ^ 11 else 0) +
    (if c.value32.isSome then 2 ^ 12 else 0) + (if c.value48.isSome then 2 ^ 13 else 0)

theorem Content.toNat_header : c.header.toNat = c.headerNumber ∧ c.header.toNat < 2 ^ 14 := by
  have cause : (place c.cause.code 0).toNat = c.cause.number ∧ (place c.cause.code 0).toNat < 2 ^ 4 := by
    cases c.cause <;> exact ⟨rfl, by decide⟩
  have axis : 2 ^ 4 * (BitVec.ofNat 2 ((c.axis.map Fin.val).getD 0)).toNat = c.axis.elim 0 (fun n => 16 * n.val) := by
    cases c.axis with
    | none => rfl
    | some n => simp
  obtain ⟨h4, l4⟩ := toNat_or_place _ (BitVec.ofNat 2 ((c.axis.map Fin.val).getD 0)) cause.2 (by decide)
  obtain ⟨h6, l6⟩ := toNat_or_placeBit _ c.axis.isSome l4 (by decide)
  obtain ⟨h7, l7⟩ := toNat_or_placeBit _ c.position.isSome l6 (by decide)
  obtain ⟨h8, l8⟩ := toNat_or_placeBit _ c.revolution.isSome l7 (by decide)
  obtain ⟨h9, l9⟩ := toNat_or_placeBit _ c.gang.isSome l8 (by decide)
  obtain ⟨h10, l10⟩ := toNat_or_placeBit _ c.entry.isSome l9 (by decide)
  obtain ⟨h11, l11⟩ := toNat_or_placeBit _ c.aux.isSome l10 (by decide)
  obtain ⟨h12, l12⟩ := toNat_or_placeBit _ c.value32.isSome l11 (by decide)
  obtain ⟨h13, l13⟩ := toNat_or_placeBit _ c.value48.isSome l12 (by decide)
  refine ⟨h13.trans ?_, l13⟩
  rw [h12, h11, h10, h9, h8, h7, h6, h4, cause.1, axis]
  rfl

theorem Content.headerNumber_lt : c.headerNumber < 2 ^ 16 := by
  obtain ⟨h, hlt⟩ := c.toNat_header
  omega

theorem Content.header_eq : c.header = BitVec.ofNat 16 c.headerNumber := by
  rw [← c.toNat_header.1, BitVec.ofNat_toNat, BitVec.setWidth_eq]

end

/-! ## The groups -/

theorem encodeOpt_eq_elim {α : Type} (f : α → List Halfword) (x : Option α) : encodeOpt f x = x.elim [] f := by
  cases x <;> rfl

/-- The present positions of a gang capture, axis by axis (R116). -/
theorem Gang.present_flatMap (g : Gang) : g.present.flatMap halves32 =
    g.positions[0].elim [] halves32 ++ g.positions[1].elim [] halves32 ++ g.positions[2].elim [] halves32 ++
      g.positions[3].elim [] halves32 := by
  have hlist : g.positions.toList = [g.positions[0], g.positions[1], g.positions[2], g.positions[3]] :=
    List.ext_getElem (by simp) fun i hi _ => by
      have hlt : i < 4 := by simpa using hi
      interval_cases i <;> rfl
  have cons : ∀ (x : Option (BitVec 32)) (xs : List (Option (BitVec 32))),
      (x :: xs).reduceOption.flatMap halves32 = x.elim [] halves32 ++ xs.reduceOption.flatMap halves32 := fun x xs => by
    cases x <;> rfl
  rw [Gang.present, hlist, cons, cons, cons, cons]
  simp

theorem Gang.encode_eq (g : Gang) : g.encode =
    [BitVec.ofNat 16 ((if g.positions[0].isSome then 2 ^ 0 else 0) + (if g.positions[1].isSome then 2 ^ 1 else 0) +
      (if g.positions[2].isSome then 2 ^ 2 else 0) + (if g.positions[3].isSome then 2 ^ 3 else 0))] ++
      g.positions[0].elim [] halves32 ++ g.positions[1].elim [] halves32 ++ g.positions[2].elim [] halves32 ++
      g.positions[3].elim [] halves32 := by
  have mask : ∀ a b c d : Bool,
      place (BitVec.ofBool d ++ BitVec.ofBool c ++ BitVec.ofBool b ++ BitVec.ofBool a) 0 =
        BitVec.ofNat 16 ((if a then 2 ^ 0 else 0) + (if b then 2 ^ 1 else 0) + (if c then 2 ^ 2 else 0) +
          (if d then 2 ^ 3 else 0)) := by decide
  rw [Gang.encode, Gang.mask, mask, g.present_flatMap]
  simp only [List.cons_append, List.nil_append]

theorem EntryGroup.encode_eq (e : EntryGroup) :
    e.encode = [BitVec.ofNat 16 (e.slot.val + 256 * e.tag.toNat), e.remaining] := by
  have slot : (place (BitVec.ofNat 8 e.slot.val) 0).toNat = e.slot.val := by
    have : e.slot.val < 128 := e.slot.isLt
    simp [place]; omega
  have below : (place (BitVec.ofNat 8 e.slot.val) 0).toNat < 2 ^ 8 := by
    rw [slot]; exact lt_trans e.slot.isLt (by decide)
  have header := (toNat_or_place _ e.tag below (by decide)).1
  rw [slot] at header
  rw [EntryGroup.encode, show 256 = 2 ^ 8 from rfl, ← header, BitVec.ofNat_toNat, BitVec.setWidth_eq]

/-- The encoding of a record, group by group. -/
theorem Record.encode_eq (r : Record) : r.encode = [BitVec.ofNat 16 r.content.headerNumber, r.seq] ++
    halves48 r.content.stamp ++ r.content.position.elim [] halves32 ++ r.content.revolution.elim [] (fun x => [x]) ++
    r.content.gang.elim [] Gang.encode ++ r.content.entry.elim [] EntryGroup.encode ++
    r.content.aux.elim [] (fun x => [x]) ++ r.content.value32.elim [] halves32 ++
    r.content.value48.elim [] halves48 := by
  simp only [Record.encode, encodeOpt_eq_elim, Content.header_eq, List.cons_append, List.nil_append]

/-- The length of the gang group from the number of its present positions (R116, R194). -/
theorem Content.gangLength_eq (c : Content) : c.gangLength = if c.gang.isSome then
    1 + 2 * (c.gang.map fun g => (g.positions.toList.filter Option.isSome).length).getD 0 else 0 := by
  rw [Content.gangLength]
  cases c.gang with
  | none => rfl
  | some g => simp [g.present_length]

/-- Settles O50: the lengths are those of the groups that the cause has. -/
theorem recordEncodingHasItsHeaderAndLength : Obligations.RecordEncodingHasItsHeaderAndLength := by
  intro r hshaped
  refine ⟨?_, r.content.headerNumber_lt, ?_, Record.encode_length_le hshaped⟩
  · rw [r.encode_eq, funext Gang.encode_eq, funext EntryGroup.encode_eq]
    rfl
  · rw [Record.encode_length_of_shaped hshaped]
    have gangLength := r.content.gangLength_eq
    obtain ⟨revolution, hgroups⟩ := hshaped
    have noTurn : r.content.cause.hasRevolution = false → r.content.revolution.isSome = false := fun h => by
      simpa [h] using revolution
    cases hc : r.content.cause
    case compare =>
      simp only [gangLength]
      cases r.content.gang.isSome <;> simp
      omega
    case index | homed | expired | phaseErr | fault => rfl
    all_goals
      have turnless := noTurn (by rw [hc]; rfl)
      simp only [hc, Content.groups, List.cons.injEq] at hgroups
      simp [gangLength, hgroups, turnless]
    all_goals omega

end Sys2Proof.Machine
end

section
/-! The capture journal (R135, R137 to R157): one offer, the fixed order of a moment, the reader actions and the
configuration. -/
namespace Sys2Proof.Machine

/-! ## One offer -/

section
variable {j : Journal} (o : Offer)

theorem Journal.offer_of_room (h : j.full = false) : (j.offer o).pendingLoss = j.pendingLoss ∧
    (j.offer o).overwrites = j.overwrites ∧ (j.offer o).openedMark = j.openedMark ∧
    (j.offer o).age = if j.ring = [] then some .start else j.age := by
  simp [Journal.offer, Journal.overwriting, h]

theorem Journal.ring_ne_nil_of_full (h : j.full = true) : j.ring ≠ [] := fun hnil => by
  rw [Journal.full, hnil] at h; exact absurd h (by decide)

theorem Journal.offer_of_full_stop (h : j.full = true) (hm : j.mode = .stop) :
    (j.offer o).pendingLoss = satInc j.pendingLoss ∧ (j.offer o).overwrites = j.overwrites ∧
    (j.offer o).openedMark = j.openedMark ∧ (j.offer o).age = j.age := by
  simp [Journal.offer, Journal.overwriting, h, hm, Journal.ring_ne_nil_of_full h]

theorem Journal.offer_of_full_overwrite (h : j.full = true) (hm : j.mode = .overwrite) :
    (j.offer o).pendingLoss = j.pendingLoss ∧ (j.offer o).overwrites = satInc j.overwrites ∧
    (j.offer o).openedMark = false ∧ (j.offer o).age = some .start ∧ (j.offer o).ageLatch = false := by
  simp [Journal.offer, Journal.overwriting, h, hm]

end

/-- Settles O45, by the three cases of one admission. -/
theorem offerIsAdmittedLostOrOverwrites : Obligations.OfferIsAdmittedLostOrOverwrites := by
  intro src c s h j t j'
  have hlen : j'.ring.length = min 64 (j.ring.length + 1) := h.offer_length _
  have hseq : j'.nextSeq = if j.ring.length = 64 ∧ j.mode = .stop then j.nextSeq else j.nextSeq + 1 := h.offer_nextSeq _
  have flags : t.interrupts = s.interrupts.raiseIf j.full .jrnlLoss := rfl
  have full : j.ring.length = 64 → j.full = true := (Journal.full_iff h).mpr
  have room : j.ring.length < 64 → j.full = false := fun hl =>
    Bool.eq_false_iff.mpr fun hf => by exact absurd ((Journal.full_iff h).mp hf) (Nat.ne_of_lt hl)
  refine ⟨fun hl => ?_, fun hl hm => ?_, fun hl hm => ?_, fun hlast => ?_, rfl, rfl, rfl, rfl, rfl⟩
  · obtain ⟨hloss, hover, hmark, hage⟩ := Journal.offer_of_room { source := src, content := c } (room hl)
    refine ⟨by omega, by rw [hseq, if_neg (by omega)], hloss, hover, hmark, hage, ?_⟩
    rw [flags, room hl]; rfl
  · obtain ⟨hloss, hover, hmark, hage⟩ := Journal.offer_of_full_stop { source := src, content := c } (full hl) hm
    refine ⟨by omega, by rw [hseq, if_pos ⟨hl, hm⟩], ?_, hover, hmark, hage, ?_⟩
    · exact (congrArg BitVec.toNat hloss).trans (satInc_toNat _ (by decide))
    · rw [flags, full hl]; rfl
  · obtain ⟨hloss, hover, hmark, hage, hlatch⟩ :=
      Journal.offer_of_full_overwrite { source := src, content := c } (full hl) hm
    refine ⟨by omega, by rw [hseq, if_neg (fun hs => by rw [hm] at hs; cases hs.2)], hloss, ?_, hmark, hage, hlatch, ?_⟩
    · exact (congrArg BitVec.toNat hover).trans (satInc_toNat _ (by decide))
    · rw [flags, full hl]; rfl
  · have last : j'.arbiter = j.arbiter.take (.admission { source := src, content := c }) := h.offer_last _ hlast
    have ring : j'.ring = (admitOne j.mode (j.ring, j.nextSeq) c).1 := congrArg Arbiter.ring last
    refine ⟨congrArg Arbiter.view last, fun hl => ?_, fun hl hm => ?_, fun hl hm => ?_⟩
    · rw [ring, admitOne_of_room _ _ _ hl]
    · rw [ring, hm, admitOne_of_full_stop (j.ring, j.nextSeq) c hl.ge]
    · rw [ring, hm, admitOne_of_full_overwrite (j.ring, j.nextSeq) c hl.ge]

/-! ## The reader -/

section
variable {j : Journal} (stamp : Time)

theorem Journal.open_of_records {r : Record} {rest : List Record} (hc : j.reader = .closed) (hr : j.ring = r :: rest) :
    j.open = { j with
      view := r.encode, viewPointer := 0, openedMark := true, reader := .opened, lastAccess := .ok
      moment := { j.moment with events := j.moment.events ++ [.openOldest] } } := by
  simp [Journal.open, Journal.openOldest, Journal.act, Arbiter.take, Journal.arbiter, hc, hr]

theorem Journal.open_of_empty (hc : j.reader = .closed) (hr : j.ring = []) : j.open = { j with lastAccess := .empty } := by
  simp [Journal.open, hc, hr]

theorem Journal.open_of_opened (hc : j.reader = .opened) : j.open = { j with lastAccess := .alreadyOpen } := by
  simp [Journal.open, hc]

theorem Journal.release_of_closed (hc : j.reader = .closed) : j.release stamp = { j with lastAccess := .notOpen } := by
  simp [Journal.release, hc]

theorem Journal.release_of_stale (hc : j.reader = .opened) (hm : j.openedMark = false) :
    j.release stamp = { j with reader := .closed, lastAccess := .stale } := by
  simp [Journal.release, hc, hm]

/-- A removal that leaves `rest`, with the LOSS record of a STOP-mode journal that lost records (R140). -/
theorem Journal.remove_lossRecord (rest : List Record) (j : Journal) : j.arbiter.remove rest (j.lossRecord stamp) =
    { ring := if j.mode = .stop ∧ j.pendingLoss ≠ 0 then rest ++ [{ seq := j.nextSeq, content :=
        { cause := .loss, stamp := stamp, value32 := some (j.pendingLoss.setWidth 32) } }] else rest
      nextSeq := if j.mode = .stop ∧ j.pendingLoss ≠ 0 then j.nextSeq + 1 else j.nextSeq
      mode := j.mode
      view := j.view } := by
  unfold Journal.lossRecord
  split_ifs <;> rfl

end

/-- A reader action leaves the rest of the part alone. -/
theorem State.perform_reader (s : State) (a : HostAction) (h : a ≠ .readOverwrites) :
    s.perform (some a) = { s with journal := s.journal.perform s.now a } := by
  cases a with
  | readOverwrites => exact absurd rfl h
  | openRecord | release | discard => rfl

/-- Settles O47, by the reader's state. -/
theorem readerActionsFollowTheReaderState : Obligations.ReaderActionsFollowTheReaderState := by
  intro s hr j losing loss lost acted started
  have row : ∀ a, exec (hostActionRow a) s = .next (s.perform (some a)) := fun a => by
    cases a with
    | openRecord => exact exec_of_running .readerOpen hr nofun
    | release => exact exec_of_running .readerRelease hr nofun
    | discard => exact exec_of_running .readerDiscard hr nofun
    | readOverwrites => exact exec_of_running .overwriteCountRead hr nofun
  have performed : ∀ (a : HostAction) (k : Journal), a ≠ .readOverwrites → j.perform s.now a = k →
      exec (hostActionRow a) s = .next { s with journal := k } := fun a k ha hk => by
    rw [row a, s.perform_reader a ha, ← hk]
  refine ⟨fun r rest hc hring => ?_, fun hc hring => ?_, fun hc => ?_, fun hc => ?_, fun hc hm => ?_,
    fun r rest hc hm hring => ?_, ?_, rfl, row⟩
  · exact performed .openRecord _ nofun (Journal.open_of_records hc hring)
  · exact performed .openRecord _ nofun (Journal.open_of_empty hc hring)
  · exact performed .openRecord _ nofun (Journal.open_of_opened hc)
  · exact performed .release _ nofun (Journal.release_of_closed _ hc)
  · exact performed .release _ nofun (Journal.release_of_stale _ hc hm)
  · refine performed .release _ nofun ?_
    simp only [Journal.perform, Journal.release, hc, hm, Journal.act, Arbiter.take, j.remove_lossRecord,
      show j.arbiter.ring.tail = rest from congrArg List.tail hring, Journal.clearLosses, Journal.restartAge,
      List.isEmpty_iff]
    rfl
  · refine performed .discard _ nofun ?_
    simp only [Journal.perform, Journal.discard, Journal.act, Arbiter.take, j.remove_lossRecord, Journal.clearLosses,
      Journal.restartAge, List.isEmpty_iff]
    rfl

/-! ## The configuration and the age latch -/

theorem Journal.aged_iff (j : Journal) (hold : BitVec 16) : j.aged hold = true ↔
    hold ≠ 0 ∧ ∃ a, j.age = some a ∧ hold.toNat ≤ a.count.toNat := by
  unfold Journal.aged
  cases j.age with
  | none => simp
  | some a => simp

theorem Journal.ready_iff (j : Journal) : j.ready = true ↔
    j.threshold.toNat ≤ j.ring.length ∨ (j.holdTime ≠ 0 ∧ j.ageLatch = true) := by
  simp [Journal.ready]

/-- Settles O48. -/
theorem journalConfigurationAndAgeLatch : Obligations.JournalConfigurationAndAgeLatch := by
  intro d s hr j threshold mode refused reached
  have hthreshold : (field d 0 7 : BitVec 7).toNat = threshold := by rw [toNat_field]; simp [threshold]
  have judged : (((field d 0 7 : BitVec 7).toNat < 1 ∨ Config.ringCapacity < (field d 0 7 : BitVec 7).toNat ∨
      (JournalMode.ofBit (d.getLsbD 8) ≠ j.mode ∧ j.ring ≠ [])) : Prop) = refused := by rw [hthreshold]; rfl
  have configured : exec (.jcfgWrite d) s = .next (s.setJournal (j.configure d)) := exec_of_running (.jcfgWrite d) hr nofun
  refine ⟨fun h => ?_, fun h => ?_, ⟨_, exec_of_running (.jholdWrite d) hr nofun, rfl, ?_, ?_⟩, fun h => ?_⟩
  · rw [configured, Journal.configure]
    simp only [judged]
    rw [if_pos h]
    rfl
  · rw [configured, Journal.configure]
    simp only [judged]
    rw [if_neg h]
    rfl
  · show (j.ageLatch || j.aged d) = true ↔ _
    rw [Bool.or_eq_true, j.aged_iff]
  · exact (j.writeHold d).ready_iff
  · rw [exec_of_running .ageLatchSet hr nofun]
    exact congrArg _ (if_pos ((j.aged_iff _).mpr h))

end Sys2Proof.Machine
end

section
/-! The fixed order of one moment (R137), a reader action among its offers or not (R149). -/
namespace Sys2Proof.Machine

/-! ## Offers of one moment in either order -/

/-- The events of a moment with two admissions and, between them, actions: the order of the two admissions is forgotten
when the offers are put into the places of the admissions. -/
theorem refill_swap (a b : Offer) (es fs : List JournalEvent) (hf : offersOf fs = []) (os ps : List Offer)
    (ho : os.length = (offersOf es).length + 1) (hp : ps.length = (offersOf es).length + 2) :
    refill (refill (es ++ [JournalEvent.admission a]) os ++ (fs ++ [JournalEvent.admission b])) ps =
      refill (es ++ [JournalEvent.admission a] ++ (fs ++ [JournalEvent.admission b])) ps := by
  have inner : refill (es ++ [JournalEvent.admission a]) os ++ (fs ++ [JournalEvent.admission b]) =
      refill (es ++ [JournalEvent.admission a] ++ (fs ++ [JournalEvent.admission b])) (os ++ [b]) := by
    rw [refill_append _ _ _ _ (by simp [offersOf, ho])]
    have := refill_offersOf (fs ++ [JournalEvent.admission b])
    rw [offersOf_append, hf] at this
    rw [show [b] = [] ++ offersOf [JournalEvent.admission b] from rfl, this]
  rw [inner, refill_refill _ _ _ (by simp [offersOf, hf, hp])]

theorem refill_admissions (a b : Offer) (es fs : List JournalEvent) (hf : offersOf fs = []) (ps : List Offer)
    (hp : ps.length = (offersOf es).length + 2) :
    refill (es ++ [JournalEvent.admission a] ++ fs ++ [JournalEvent.admission b]) ps =
      refill (es ++ [JournalEvent.admission b] ++ fs ++ [JournalEvent.admission a]) ps := by
  have swapped : es ++ [JournalEvent.admission b] ++ fs ++ [JournalEvent.admission a] =
      refill (es ++ [JournalEvent.admission a] ++ fs ++ [JournalEvent.admission b]) (offersOf es ++ [b] ++ [] ++ [a]) := by
    rw [refill_append _ _ _ _ (by simp [offersOf, hf]), refill_append _ _ _ _ (by simp [offersOf]),
      refill_append _ _ _ _ rfl, refill_offersOf, ← hf, refill_offersOf]
    rfl
  rw [swapped, refill_refill _ _ _ (by simp [offersOf, hf, hp])]

/-- Two offers of different blocks join a moment alike in either order, whatever is taken between them. -/
theorem Moment.receive_comm (m : Moment) (a b : Offer) (h : a.source ≠ b.source) (fs : List JournalEvent)
    (hf : offersOf fs = []) :
    ({ m with events := (m.receive a).events ++ fs } : Moment).receive b =
      ({ m with events := (m.receive b).events ++ fs } : Moment).receive a := by
  have placed : insertOffer b (insertOffer a (offersOf m.events)) = insertOffer a (insertOffer b (offersOf m.events)) :=
    insertOffer_comm b a (fun hp => h (Source.place_injective hp).symm) _
  have joined : ∀ x y : Offer, ({ m with events := (m.receive x).events ++ fs } : Moment).receive y =
      { m with events := (refill (m.events ++ [JournalEvent.admission x] ++ fs ++ [JournalEvent.admission y])
        (insertOffer y (insertOffer x (offersOf m.events)))) } := fun x y => by
    have offers : offersOf ((m.receive x).events ++ fs) = insertOffer x (offersOf m.events) := by
      rw [offersOf_append, hf, List.append_nil, m.receive_offersOf]
    have events := refill_swap x y m.events fs hf (insertOffer x (offersOf m.events))
      (insertOffer y (insertOffer x (offersOf m.events))) (by simp) (by simp)
    rw [Moment.receive, offers, List.append_assoc, List.append_assoc _ fs]
    exact congrArg _ events
  rw [joined, joined, placed, refill_admissions b a m.events fs hf _ (by simp)]

/-! ## Journals that differ in which records they hold -/

/-- Two journals that differ only in which records the ring holds, in their numbers, in the view and in the present
moment. -/
def Journal.Twin (j k : Journal) : Prop := ∃ (ring : List Record) (next : BitVec 16) (view : List Halfword) (m : Moment),
  k = { j with ring := ring, nextSeq := next, view := view, moment := m } ∧ ring.length = j.ring.length

/-- Which of two offers joins a moment leaves the other fields of the journal alone. -/
theorem Journal.twin_offer (a b : Offer) (j : Journal) : (j.offer a).Twin (j.offer b) := by
  have count := (j.moment.receive_count b).1.trans
    ((Arbiter.SameCount.admission ⟨rfl, rfl, rfl⟩ b a).1.trans (j.moment.receive_count a).1.symm)
  exact ⟨(j.offer b).ring, (j.offer b).nextSeq, (j.offer b).view, (j.offer b).moment, rfl, count⟩

section
variable {j k : Journal} (h : j.Twin k)
include h

theorem Journal.Twin.isEmpty_eq : k.ring.isEmpty = j.ring.isEmpty := by
  obtain ⟨ring, next, view, m, rfl, length⟩ := h
  rw [Bool.eq_iff_iff, List.isEmpty_iff_length_eq_zero, List.isEmpty_iff_length_eq_zero, length]

theorem Journal.Twin.reader_eq : k.reader = j.reader := by
  obtain ⟨ring, next, view, m, rfl, length⟩ := h; rfl

theorem Journal.Twin.openedMark_eq : k.openedMark = j.openedMark := by
  obtain ⟨ring, next, view, m, rfl, length⟩ := h; rfl

theorem Journal.Twin.lossRecord_eq (stamp : Time) : k.lossRecord stamp = j.lossRecord stamp := by
  obtain ⟨ring, next, view, m, rfl, length⟩ := h; rfl

/-- The next offer of a moment forgets which records its journal held. -/
theorem Journal.Twin.offer_eq {a b : Offer} (hm : j.moment.receive b = k.moment.receive a) : j.offer b = k.offer a := by
  have empty := h.isEmpty_eq
  obtain ⟨ring, next, view, m, rfl, length⟩ := h
  simp only [Journal.offer, Journal.overwriting, Journal.full, hm, length, empty]
  rfl

/-- An action that both take with one event keeps them twins. -/
theorem Journal.Twin.act (e : JournalEvent) (he : offersOf [e] = []) : (j.act e).Twin (k.act e) := by
  obtain ⟨ring, next, view, m, rfl, length⟩ := h
  have tails : ring.tail.length = j.ring.tail.length := by simp [length]
  cases e with
  | admission o => cases he
  | openOldest => exact ⟨_, _, _, _, rfl, length⟩
  | setMode m => exact ⟨_, _, _, _, rfl, length⟩
  | release loss =>
    cases loss with
    | none => exact ⟨_, _, _, _, rfl, tails⟩
    | some c => exact ⟨_, _, _, _, rfl, by simpa [Journal.act, Arbiter.take, Arbiter.remove, Journal.arbiter] using tails⟩
  | discard loss => cases loss <;> exact ⟨_, _, _, _, rfl, rfl⟩

theorem Journal.Twin.setAccess (access : AccessResult) :
    Journal.Twin { j with lastAccess := access } { k with lastAccess := access } := by
  obtain ⟨ring, next, view, m, rfl, length⟩ := h
  exact ⟨ring, next, view, m, rfl, length⟩

theorem Journal.Twin.setReader (reader : ReaderState) :
    Journal.Twin { j with reader := reader } { k with reader := reader } := by
  obtain ⟨ring, next, view, m, rfl, length⟩ := h
  exact ⟨ring, next, view, m, rfl, length⟩

theorem Journal.Twin.setMark (mark : Bool) :
    Journal.Twin { j with openedMark := mark } { k with openedMark := mark } := by
  obtain ⟨ring, next, view, m, rfl, length⟩ := h
  exact ⟨ring, next, view, m, rfl, length⟩

theorem Journal.Twin.setPointer (pointer : Nat) :
    Journal.Twin { j with viewPointer := pointer } { k with viewPointer := pointer } := by
  obtain ⟨ring, next, view, m, rfl, length⟩ := h
  exact ⟨ring, next, view, m, rfl, length⟩

/-- What follows a removal (R140, R154). -/
theorem Journal.Twin.afterRemoval : j.clearLosses.restartAge.Twin k.clearLosses.restartAge := by
  have empty := h.isEmpty_eq
  obtain ⟨ring, next, view, m, rfl, length⟩ := h
  refine ⟨ring, next, view, m, ?_, length⟩
  simp only [Journal.restartAge, Journal.clearLosses, empty]
  rfl

end

/-! ## The reader actions -/

/-- An action of the journal that twins take alike, with one and the same event of the moment or none. -/
def Journal.IsAction (act : Journal → Journal) : Prop := ∀ j k : Journal, j.Twin k →
  (act j).Twin (act k) ∧ ∃ es : List JournalEvent, offersOf es = [] ∧
    (act j).moment = { j.moment with events := j.moment.events ++ es } ∧
    (act k).moment = { k.moment with events := k.moment.events ++ es }

/-- Two offers of different blocks, with an action between them, are admitted alike in either order (R137, R149). -/
theorem Journal.IsAction.offer_comm {act : Journal → Journal} (h : Journal.IsAction act) (a b : Offer) (j : Journal)
    (hs : a.source ≠ b.source) : (act (j.offer a)).offer b = (act (j.offer b)).offer a := by
  obtain ⟨twin, es, hes, hj, hk⟩ := h _ _ (j.twin_offer a b)
  refine twin.offer_eq ?_
  rw [hj, hk]
  exact j.moment.receive_comm a b hs es hes

theorem Journal.isAction_id : Journal.IsAction id := fun j k h => ⟨h, [], rfl, by simp, by simp⟩

theorem Journal.open_eq_openOldest {j : Journal} (hc : j.reader = .closed) (hr : j.ring ≠ []) : j.open = j.openOldest := by
  cases hring : j.ring with
  | nil => exact absurd hring hr
  | cons r rest => simp only [Journal.open, hc, hring]

theorem Journal.isAction_open : Journal.IsAction Journal.open := by
  intro j k h
  cases hc : j.reader with
  | opened =>
    rw [Journal.open_of_opened hc, Journal.open_of_opened (h.reader_eq.trans hc)]
    exact ⟨h.setAccess _, [], rfl, by simp, by simp⟩
  | closed =>
    by_cases hr : j.ring = []
    · have hk : k.ring = [] := List.isEmpty_iff.mp (h.isEmpty_eq.trans (List.isEmpty_iff.mpr hr))
      rw [Journal.open_of_empty hc hr, Journal.open_of_empty (h.reader_eq.trans hc) hk]
      exact ⟨h.setAccess _, [], rfl, by simp, by simp⟩
    · have hk : k.ring ≠ [] := fun hk =>
        hr (List.isEmpty_iff.mp (h.isEmpty_eq.symm.trans (List.isEmpty_iff.mpr hk)))
      rw [Journal.open_eq_openOldest hc hr, Journal.open_eq_openOldest (h.reader_eq.trans hc) hk]
      exact ⟨(((h.act .openOldest rfl).setReader .opened).setMark true |>.setPointer 0).setAccess .ok, [.openOldest], rfl, rfl, rfl⟩

theorem Journal.isAction_release (stamp : Time) : Journal.IsAction (Journal.release stamp) := by
  intro j k h
  cases hc : j.reader with
  | closed =>
    rw [Journal.release_of_closed stamp hc, Journal.release_of_closed stamp (h.reader_eq.trans hc)]
    exact ⟨h.setAccess _, [], rfl, by simp, by simp⟩
  | opened =>
    have hkc := h.reader_eq.trans hc
    cases hm : j.openedMark with
    | false =>
      rw [Journal.release_of_stale stamp hc hm, Journal.release_of_stale stamp hkc (h.openedMark_eq.trans hm)]
      exact ⟨(h.setReader .closed).setAccess .stale, [], rfl, by simp, by simp⟩
    | true =>
      have hkm := h.openedMark_eq.trans hm
      have twin := ((((h.act (.release (j.lossRecord stamp)) rfl).setReader .closed).setMark false).setAccess .ok).afterRemoval
      refine ⟨?_, [.release (j.lossRecord stamp)], rfl, ?_, ?_⟩
      · simp only [Journal.release, hc, hm, hkc, hkm, h.lossRecord_eq]
        exact twin
      · simp only [Journal.release, hc, hm]; rfl
      · simp only [Journal.release, hkc, hkm, ← h.lossRecord_eq]; rfl

theorem Journal.isAction_discard (stamp : Time) : Journal.IsAction (Journal.discard stamp) := by
  intro j k h
  have twin := (((((h.act (.discard (j.lossRecord stamp)) rfl).setReader .closed).setMark false).setPointer 0).setAccess .ok).afterRemoval
  refine ⟨?_, [.discard (j.lossRecord stamp)], rfl, rfl, ?_⟩
  · simp only [Journal.discard, h.lossRecord_eq]
    exact twin
  · rw [← h.lossRecord_eq]
    rfl

/-- Two offers of one moment, in the order of their blocks, join one behind the other. -/
theorem Journal.offer_offer_ring {a b : Offer} {j : Journal} (h : j.RingSound) (hm : j.moment.events = [])
    (hl : j.ring.length + 2 ≤ 64) (hp : a.source.place ≤ b.source.place) : ((j.offer a).offer b).ring = j.ring ++
      [{ seq := j.nextSeq, content := a.content }, { seq := j.nextSeq + 1, content := b.content }] := by
  have first : (j.offer a).arbiter = j.arbiter.take (.admission a) := h.offer_last a (by simp [hm, offersOf])
  have second : ((j.offer a).offer b).arbiter = (j.offer a).arbiter.take (.admission b) :=
    (h.offer a).offer_last b (by simp [hm, offersOf, insertOffer, hp])
  have room : admitOne j.mode (j.ring, j.nextSeq) a.content =
      (j.ring ++ [{ seq := j.nextSeq, content := a.content }], j.nextSeq + 1) :=
    admitOne_of_room _ _ _ (show j.ring.length < 64 by omega)
  have room' := admitOne_of_room j.mode (j.ring ++ [{ seq := j.nextSeq, content := a.content }], j.nextSeq + 1) b.content
    (show _ < 64 by simp; omega)
  have ring := congrArg Arbiter.ring second
  rw [first] at ring
  simp only [Arbiter.take, Journal.arbiter, room, room'] at ring
  rw [ring, List.append_assoc]
  rfl

/-- Settles O46. -/
theorem admissionOrderIsTheFixedOrder : Obligations.AdmissionOrderIsTheFixedOrder := by
  refine ⟨fun a b j hs => ⟨Journal.isAction_id.offer_comm a b j hs, fun act stamp hact => ?_⟩, fun a b j h hm hl => ?_, ?_⟩
  · obtain rfl | rfl | rfl := hact
    · exact Journal.isAction_open.offer_comm a b j hs
    · exact (Journal.isAction_release stamp).offer_comm a b j hs
    · exact (Journal.isAction_discard stamp).offer_comm a b j hs
  · refine ⟨Journal.offer_offer_ring h hm hl, fun hp => ?_⟩
    have comm : (j.offer a).offer b = (j.offer b).offer a :=
      Journal.isAction_id.offer_comm a b j fun hs => by rw [hs] at hp; exact absurd hp (Nat.lt_irrefl _)
    rw [comm]
    exact Journal.offer_offer_ring h hm hl (Nat.le_of_lt hp)
  · intro n m i
    have hn := n.isLt
    have hi := i.isLt
    simp only [Source.place, Fin.lt_def]
    exact ⟨by omega, by omega, by omega, by omega, fun i' _ => by omega, by omega, by omega⟩

end Sys2Proof.Machine
end

section
/-! The counters derived from CLKIN and the events that fall together with a tick (R2, R91, R108, R112, R121, R127, R154). -/
namespace Sys2Proof.Machine

/-! ## The rows that fall together with a tick -/

theorem exec_of_fallsWithTick {c : Instr} {ready : State → Bool} {event : State → State} {s : State}
    (hf : FallsWithTick c ready event) (hr : s.inReset = false) : exec c s = .next (s.atTick ready event) := by
  cases hf with
  | sample f => exact exec_of_running (.filterSamplePoint f) hr nofun
  | width l => exact exec_of_running (.widthExpiry l) hr nofun
  | gap l => exact exec_of_running (.gapExpiry l) hr nofun
  | holdoff n => exact exec_of_running (.holdoffExpiry n) hr nofun
  | latch => exact exec_of_running .ageLatchSet hr nofun

/-- The commands with a condition at the tick are those that fall together with it (R121). -/
theorem fallsWithTick_of_reached {c : Instr} {s : State} {b : Bool} (h : s.reached c = some b) :
    ∃ ready event, FallsWithTick c ready event := by
  unfold State.reached at h
  split at h
  case h_1 n x y z => exact ⟨_, _, .sample (.axis n x y z)⟩
  case h_2 n x => exact ⟨_, _, .sample (.trigger n x)⟩
  case h_3 x => exact ⟨_, _, .sample (.sync x)⟩
  case h_4 l => exact ⟨_, _, .width l⟩
  case h_5 l => exact ⟨_, _, .gap l⟩
  case h_6 n => exact ⟨_, _, .holdoff n⟩
  case h_7 => exact ⟨_, _, .latch⟩
  case h_8 => cases h

/-- The condition and the event of a row that falls together with a tick and has not been reached. -/
theorem fallsWithTick_of_not_reached {c : Instr} {s : State} (h : s.reached c = some false) :
    ∃ ready event, FallsWithTick c ready event ∧ ready s = false := by
  obtain ⟨ready, event, hf⟩ := fallsWithTick_of_reached h
  exact ⟨ready, event, hf, Option.some.inj ((hf.reached s).symm.trans h)⟩

section
variable {s : State} {ready : State → Bool} {event : State → State}

theorem State.atTick_of_ready (h : ready s = true) : s.atTick ready event = event s := if_pos h

theorem State.atTick_of_countTick (h : ready s = false) (hc : ready s.countTick = true) :
    s.atTick ready event = event s.countTick := by
  rw [State.atTick, if_neg (by simp [h]), if_pos hc]

theorem State.atTick_of_neither (h : ready s = false) (hc : ready s.countTick = false) : s.atTick ready event = s := by
  rw [State.atTick, if_neg (by simp [h]), if_neg (by simp [hc])]

/-- An event before its tick, taken at the state in which the counters have counted the tick. -/
theorem exec_before_tick {c : Instr} (hf : FallsWithTick c ready event) (hr : s.inReset = false) (h : ready s = false)
    {t : State} (ht : t.inReset = false) (hcount : s.countTick = t) (hready : ready t = true) : exec c s = exec c t := by
  subst hcount
  rw [exec_of_fallsWithTick hf hr, exec_of_fallsWithTick hf ht, State.atTick_of_countTick h hready,
    State.atTick_of_ready hready]

theorem exec_not_reached {c : Instr} (hf : FallsWithTick c ready event) (hr : s.inReset = false) (h : ready s = false)
    (hready : ready s.countTick = false) : exec c s = .next s := by
  rw [exec_of_fallsWithTick hf hr, State.atTick_of_neither h hready]

end

/-! ## The counters -/

theorem Divider.tick_eq (interval : Nat) (d : Divider) : d.tick interval =
    if d.count + 1 < interval then { count := d.count + 1, due := false } else { count := 0, due := true } := by
  unfold Divider.tick
  split <;> split
  · omega
  · rfl
  · rfl
  · omega

theorem AgeTimer.tick_of_within {a : AgeTimer} (h : a.ticks + 1 < 1000) : a.tick = { a with ticks := a.ticks + 1 } :=
  if_neg (Nat.not_le.mpr h)

theorem AgeTimer.tick_of_unit {a : AgeTimer} (h : 1000 ≤ a.ticks + 1) : a.tick = { count := satInc a.count, ticks := 0 } :=
  if_pos h

theorem State.count_settled {s : State} (h : s.Settled) : s.count.Settled := ⟨h.1.count, nofun⟩

/-- Settles O40. -/
theorem tickMovesTheCountersOfClkin : Obligations.TickMovesTheCountersOfClkin := by
  intro s hr hsettled ticked interval
  have hinterval : ∀ c : SampleClock, interval c = c.interval := fun c => by cases c <;> rfl
  have tick : ∀ t : State, t.inReset = false → exec .timebaseTick t = .next t.tick := fun t ht =>
    exec_of_running .timebaseTick ht nofun
  refine ⟨⟨s.journal.age.map AgeTimer.tick, ?_, fun h => by rw [h]; rfl, fun a h => ⟨a.tick, by rw [h]; rfl, ?_, ?_⟩⟩,
    fun hc => ⟨?_, fun c h => ?_⟩, fun hc => ⟨⟨_, tick s hr, ?_⟩, fun c h => ?_⟩⟩
  · have axis : Axis.tick = fun x => { x with divider := ticked (interval x.config.sampleClock) x.divider } :=
      funext fun x => by rw [Axis.tick, Divider.tick_eq, hinterval]
    have line : Line.tick = fun x => { x with
        widthTimer := x.widthTimer.map (· - 1), gapTimer := x.gapTimer.map (· - 1) } :=
      funext fun x => by rw [Line.tick, tickTimer_eq_map, tickTimer_eq_map]
    have trigger : Trigger.tick = fun x => { x with
        divider := ticked (interval x.sampleClock) x.divider, timer := x.timer.map (· - 1) } :=
      funext fun x => by rw [Trigger.tick, Divider.tick_eq, tickTimer_eq_map, hinterval]
    rw [State.count, eachUnit_eq_map, eachUnit_eq_map, eachUnit_eq_map, axis, line, trigger]
  · exact AgeTimer.tick_of_within
  · intro h
    rw [AgeTimer.tick_of_unit h]
    exact ⟨rfl, satInc_toNat _ (by decide)⟩
  · rw [tick s hr, tick s.count hr, State.tick_of_settled hsettled, State.tick_of_settled (State.count_settled hsettled)]
    simp [hc]
  · obtain ⟨ready, event, hf, hn⟩ := fallsWithTick_of_not_reached h
    have count := s.countTick_of_settled hsettled hc
    rw [hf.reached]
    refine ⟨fun h' => exec_before_tick hf hr hn hr count (Option.some.inj h'), fun h' => ?_⟩
    exact exec_not_reached hf hr hn (by rw [count]; exact Option.some.inj h')
  · rw [State.tick_of_settled hsettled, if_pos hc]
    exact ⟨rfl, rfl, rfl, rfl, rfl⟩
  · obtain ⟨ready, event, hf, hn⟩ := fallsWithTick_of_not_reached h
    exact exec_not_reached hf hr hn (by rw [s.countTick_of_counted hc]; exact hn)

end Sys2Proof.Machine
end

section
/-! Rate trim over whole intervals (R121, R122): ticks of the timebase one after another. -/
namespace Sys2Proof.Machine

/-! ## What a tick does to the timebase -/

section
variable {s : State}

/-- The ticks of the time do not read the sample point of SYNC. -/
theorem Timebase.tick_iterate_sampleDue (k : Nat) (b : Timebase) (due due' : Bool) :
    { Timebase.tick^[k] { b with sampleDue := due } with sampleDue := due' } =
      { Timebase.tick^[k] b with sampleDue := due' } := by
  have moved : ∀ b : Timebase, Timebase.tick^[k] { b with sampleDue := due } =
      { Timebase.tick^[k] b with sampleDue := due } := by
    induction k with
    | zero => exact fun b => rfl
    | succ k ih =>
      intro b
      rw [Function.iterate_succ_apply, Function.iterate_succ_apply, ← ih]
      rfl
  rw [moved]

/-- The events of the tick before leave the timebase alone, where no change of SYNC is among them. -/
structure State.SameTime (s t : State) : Prop where
  timebase : t.timebase = s.timebase
  inReset : t.inReset = s.inReset

theorem State.takeSampled_sameTime (h : s.timebase.changed = false) : s.SameTime s.takeSampled := by
  refine s.takeSampled_keeps (s.SameTime ·) (fun e t ht => ?_) (fun e t ht => ?_) (fun n t ht => ?_) (fun t ht => ?_) ⟨rfl, rfl⟩
  · rw [t.takeEvaluation_frame e]; exact ⟨ht.timebase, ht.inReset⟩
  · rw [t.takeZChange_frame e]; exact ⟨ht.timebase, ht.inReset⟩
  · rw [t.takeLevelChange_frame n]; exact ⟨ht.timebase, ht.inReset⟩
  · rw [State.takeSyncChange_of_none (by rw [ht.timebase]; exact h)]; exact ht

theorem State.takeExpiries_sameTime : s.SameTime s.takeExpiries :=
  s.takeExpiries_keeps (s.SameTime ·) (fun _ _ ht _ => ⟨ht.timebase, ht.inReset⟩) (fun _ _ ht _ => ⟨ht.timebase, ht.inReset⟩)
    (fun _ _ ht _ => ⟨ht.timebase, ht.inReset⟩) (fun _ ht _ => ⟨ht.timebase, ht.inReset⟩) ⟨rfl, rfl⟩

theorem State.SameTime.trans {t u : State} (h : s.SameTime t) (h' : t.SameTime u) : s.SameTime u :=
  ⟨h'.timebase.trans h.timebase, h'.inReset.trans h.inReset⟩

theorem State.countTick_timebase (h : s.timebase.changed = false) : s.countTick.inReset = s.inReset ∧
    ∃ due, s.countTick.timebase = { s.timebase with sampleDue := due } := by
  unfold State.countTick
  split
  · exact ⟨rfl, _, rfl⟩
  · have same := (State.takeSampled_sameTime h).trans State.takeExpiries_sameTime
    exact ⟨(State.count_inReset _).trans same.inReset, true, by rw [State.count_timebase, same.timebase]⟩

/-- A tick without an untaken change of SYNC moves the time, and the sample point of SYNC may have come (R121, R127). -/
theorem State.tick_timebase (h : s.timebase.changed = false) : s.tick.inReset = s.inReset ∧
    ∃ due, s.tick.timebase = { s.timebase.tick with sampleDue := due } := by
  obtain ⟨reset, due, time⟩ := State.countTick_timebase h
  have same := State.takeSampled_sameTime (s := s.countTick) (by rw [time]; exact h)
  refine ⟨(State.advance_inReset _).trans (same.inReset.trans reset), due, ?_⟩
  rw [State.tick, State.advance_timebase, same.timebase, time]
  rfl

end

/-- A run takes the command at the front of the queue first. -/
theorem run_of_pending {k : Nat} {s t : State} {c : Instr} {rest : List Instr} (hp : s.pending = c :: rest)
    (h : exec c { s with pending := rest } = .next t) :
    Host.Core.run Sys2Proof.core (k + 1) s = Host.Core.run Sys2Proof.core k t := by
  have taken : step s = .next t := by rw [step, hp]; exact h
  simp only [Host.Core.run]
  rw [show Sys2Proof.core.step s = .next t from taken]

/-- A run of ticks moves the time as its ticks do, one after another. -/
theorem run_ticks (k : Nat) (s : State) (hp : s.pending = List.replicate k .timebaseTick) (hr : s.inReset = false)
    (h : s.timebase.changed = false) : ∃ t : State, Host.Core.run Sys2Proof.core k s = .next t ∧
      ∃ due, t.timebase = { Timebase.tick^[k] s.timebase with sampleDue := due } := by
  induction k generalizing s with
  | zero => exact ⟨s, rfl, _, rfl⟩
  | succ k ih =>
    obtain ⟨reset, due, time⟩ := State.tick_timebase (s := { s with pending := List.replicate k .timebaseTick }) h
    have queue := (pending_keptByEvents (List.replicate k .timebaseTick)).tick
      (s := { s with pending := List.replicate k .timebaseTick }) rfl
    obtain ⟨t, ht, due', htime⟩ := ih _ queue (reset.trans hr) (by rw [time]; exact h)
    refine ⟨t, (run_of_pending hp (exec_of_running .timebaseTick hr nofun)).trans ht, due', ?_⟩
    rw [htime, time, Function.iterate_succ_apply, Timebase.tick_iterate_sampleDue]

/-! ## The timebase over an interval -/

section
variable {b : Timebase}

/-- Before the adjusted tick the time and the interval count rise with each tick (R122). -/
theorem Timebase.tick_iterate_within (hm : b.trimMode ≠ .off) (h0 : b.intervalCount = 0) (k : Nat)
    (hk : k < b.interval.toNat) :
    Timebase.tick^[k] b = { b with time := b.time + BitVec.ofNat 48 k, intervalCount := k } := by
  induction k with
  | zero =>
    rw [Function.iterate_zero_apply, show b.time + BitVec.ofNat 48 0 = b.time by simp]
    exact congrArg (fun n => { b with intervalCount := n }) h0
  | succ k ih =>
    have before : ¬ b.interval.toNat ≤ k + 1 := by omega
    rw [Function.iterate_succ_apply', ih (by omega)]
    simp [Timebase.tick, Timebase.adjusts, Timebase.advance, hm, before, BitVec.add_assoc, BitVec.ofNat_add]

/-- What an interval adds to the time: one tick more under ADD, one less under SKIP (R122). -/
def Timebase.perInterval (b : Timebase) : Nat :=
  if b.trimMode = .add then b.interval.toNat + 1 else b.interval.toNat - 1

/-- The timebase after an interval: its length in ticks, with the one that the trim adds or takes (R122). -/
def Timebase.afterInterval (b : Timebase) : Timebase := { b with
  time := b.time + BitVec.ofNat 48 b.perInterval
  adds := if b.trimMode = .add then satInc b.adds else b.adds
  skips := if b.trimMode = .skip then satInc b.skips else b.skips }

theorem Timebase.tick_iterate_interval (hm : b.trimMode ≠ .off) (h0 : b.intervalCount = 0) (hn : 0 < b.interval.toNat) :
    Timebase.tick^[b.interval.toNat] b = b.afterInterval := by
  obtain ⟨k, hk⟩ := Nat.exists_eq_succ_of_ne_zero hn.ne'
  rw [hk, Function.iterate_succ_apply', Timebase.tick_iterate_within hm h0 k (by omega)]
  cases hmode : b.trimMode with
  | off => exact absurd hmode hm
  | add =>
    simp [Timebase.tick, Timebase.adjusts, Timebase.advance, Timebase.afterInterval, Timebase.perInterval, hmode, h0,
      hk, BitVec.ofNat_add, BitVec.add_assoc]
  | skip =>
    simp [Timebase.tick, Timebase.adjusts, Timebase.advance, Timebase.afterInterval, Timebase.perInterval, hmode, h0,
      hk]

/-- Whole intervals leave the trim as it is, and each adds the same to the time and counts its adjusted tick (R122). -/
theorem Timebase.afterInterval_iterate (m : Nat) : let a := Timebase.afterInterval^[m] b
    a.trimMode = b.trimMode ∧ a.interval = b.interval ∧ a.intervalCount = b.intervalCount ∧
    a.time = b.time + BitVec.ofNat 48 (m * b.perInterval) ∧
    (b.trimMode = .add → a.adds.toNat = min (b.adds.toNat + m) 65535) ∧
    (b.trimMode = .skip → a.skips.toNat = min (b.skips.toNat + m) 65535) := by
  induction m with
  | zero =>
    have := b.adds.isLt
    have := b.skips.isLt
    exact ⟨rfl, rfl, rfl, by simp, fun _ => by simp; omega, fun _ => by simp; omega⟩
  | succ m ih =>
    obtain ⟨mode, interval, count, time, adds, skips⟩ := ih
    rw [Function.iterate_succ_apply']
    refine ⟨mode, interval, count, ?_, fun h => ?_, fun h => ?_⟩
    · have per : (Timebase.afterInterval^[m] b).perInterval = b.perInterval := by
        rw [Timebase.perInterval, mode, interval]; rfl
      simp only [Timebase.afterInterval]
      rw [time, per, Nat.succ_mul, BitVec.add_assoc, ← BitVec.ofNat_add]
    · simp only [Timebase.afterInterval]
      rw [if_pos (mode.trans h), satInc_toNat _ (by decide), adds h]
      omega
    · simp only [Timebase.afterInterval]
      rw [if_pos (mode.trans h), satInc_toNat _ (by decide), skips h]
      omega

theorem Timebase.tick_iterate_intervals (m : Nat) (hm : b.trimMode ≠ .off) (h0 : b.intervalCount = 0)
    (hn : 0 < b.interval.toNat) : Timebase.tick^[m * b.interval.toNat] b = Timebase.afterInterval^[m] b := by
  induction m with
  | zero => simp
  | succ m ih =>
    obtain ⟨mode, interval, count, _⟩ := Timebase.afterInterval_iterate (b := b) m
    rw [Nat.succ_mul, Nat.add_comm, Function.iterate_add_apply, ih, Function.iterate_succ_apply', ← interval]
    exact Timebase.tick_iterate_interval (mode ▸ hm) (count.trans h0) (interval ▸ hn)

theorem Timebase.tick_iterate_off (m : Nat) (hm : b.trimMode = .off) :
    (Timebase.tick^[m] b).trimMode = .off ∧ (Timebase.tick^[m] b).time = b.time + BitVec.ofNat 48 m := by
  induction m with
  | zero => exact ⟨hm, by simp⟩
  | succ m ih =>
    obtain ⟨mode, time⟩ := ih
    rw [Function.iterate_succ_apply']
    refine ⟨mode, ?_⟩
    have one : (Timebase.tick^[m] b).advance = 1 := by simp [Timebase.advance, Timebase.adjusts, mode]
    simp only [Timebase.tick]
    rw [one, time, BitVec.add_assoc, ← BitVec.ofNat_add]

end

/-- Settles O41, by induction on the intervals and on the ticks within one. -/
theorem trimKeepsItsRateOverEveryInterval : Obligations.TrimKeepsItsRateOverEveryInterval := by
  intro s m hr hsound h0 hchanged N ticks
  have hn : 0 < s.timebase.interval.toNat := lt_of_lt_of_le (by decide) hsound.1
  have run : ∀ k, ∃ t : State, ticks k = .next t ∧
      ∃ due, t.timebase = { Timebase.tick^[k] s.timebase with sampleDue := due } := fun k =>
    run_ticks k { s with pending := List.replicate k .timebaseTick } rfl hr hchanged
  have time : ∀ k : Nat, (s.timebase.time + BitVec.ofNat 48 k).toNat = (s.timebase.time.toNat + k) % 2 ^ 48 := fun k => by
    rw [BitVec.toNat_add, BitVec.toNat_ofNat, Nat.add_mod_mod]
  have intervals : s.timebase.trimMode ≠ .off → ∃ t : State, ticks (m * N) = .next t ∧
      ∃ due, t.timebase = { Timebase.afterInterval^[m] s.timebase with sampleDue := due } := fun hm => by
    rw [← Timebase.tick_iterate_intervals m hm h0 hn]
    exact run (m * N)
  obtain ⟨_, _, count, after, adds, skips⟩ := Timebase.afterInterval_iterate (b := s.timebase) m
  refine ⟨fun hm => ?_, fun hm => ?_, fun hm => ?_⟩
  · obtain ⟨t, ht, due, htime⟩ := intervals (by simp [hm])
    have per : s.timebase.perInterval = N + 1 := if_pos hm
    exact ⟨t, ht, by rw [htime]; exact (congrArg BitVec.toNat after).trans (by rw [time, per]),
      by rw [htime]; exact count.trans h0, by rw [htime]; exact adds hm⟩
  · obtain ⟨t, ht, due, htime⟩ := intervals (by simp [hm])
    have per : s.timebase.perInterval = N - 1 := if_neg (by simp [hm])
    exact ⟨t, ht, by rw [htime]; exact (congrArg BitVec.toNat after).trans (by rw [time, per]),
      by rw [htime]; exact count.trans h0, by rw [htime]; exact skips hm⟩
  · obtain ⟨t, ht, due, htime⟩ := run m
    obtain ⟨_, off⟩ := Timebase.tick_iterate_off (b := s.timebase) m hm
    exact ⟨t, ht, by rw [htime]; exact (congrArg BitVec.toNat off).trans (time m)⟩

end Sys2Proof.Machine
end

section
/-! The queue of the commands takes no part in the events of the sample points and in the expiries. -/
namespace Sys2Proof.Machine

/-- The state with another queue. -/
def State.requeue (q : List Instr) (s : State) : State := { s with pending := q }

/-! ## The operations that the events share -/

section
variable (q : List Instr) (s : State)

theorem State.requeue_offerIf (b : Bool) (src : Source) (c : Content) :
    (s.requeue q).offerIf b src c = (s.offerIf b src c).requeue q := by cases b <;> rfl

theorem State.requeue_sendOutput (e : Entry) : (s.requeue q).sendOutput e = (s.sendOutput e).requeue q := by
  unfold State.sendOutput
  split <;> rfl

theorem State.requeue_returnHead (n : AxisNo) : (s.requeue q).returnHead n = (s.returnHead n).requeue q := by
  unfold State.returnHead
  rw [show (s.requeue q).schedule n = s.schedule n from rfl]
  split <;> rfl

theorem State.requeue_departHead (n : AxisNo) : (s.requeue q).departHead n = (s.departHead n).requeue q := by
  unfold State.departHead
  rw [s.requeue_returnHead q]
  rfl

theorem State.requeue_fire (n : AxisNo) (k : Slot) : (s.requeue q).fire n k = (s.fire n k).requeue q := by
  have output : ((s.requeue q).fireOutput n k) = (s.fireOutput n k).requeue q := by
    simp only [State.fireOutput, show (s.requeue q).entry k = s.entry k from rfl, s.requeue_sendOutput q]
    exact State.requeue_offerIf q _ _ _ _
  by_cases h : (s.entry k).remaining - 1 = 0
  · rw [State.fire_of_last h, State.fire_of_last (s := s.requeue q) h, output]
    exact State.requeue_departHead q
      ((s.fireOutput n k).setEntry k { s.entry k with remaining := (s.entry k).remaining - 1 }) n
  · rw [State.fire_of_more h, State.fire_of_more (s := s.requeue q) h, output]
    rfl

theorem State.requeue_arrival (n : AxisNo) : (s.requeue q).arrival n = (s.arrival n).requeue q := by
  unfold State.arrival
  rw [show (s.requeue q).schedule n = s.schedule n from rfl]
  split
  · rfl
  · rw [apply_ite (State.requeue q), s.requeue_fire q]
    rfl

theorem State.requeue_countStep (n : AxisNo) (h : Option HostAction) (d : Direction) :
    (s.requeue q).countStep n h d = (s.countStep n h d).requeue q := by
  have stepped : (s.requeue q).stepped n h d = (s.stepped n h d).requeue q := by
    unfold State.stepped
    exact congrArg (State.perform h) (State.requeue_offerIf q (s.setAxis n ((s.axis n).move d)) _ _ _)
  rw [State.countStep_eq, State.countStep_eq, stepped, State.requeue_arrival]

theorem State.requeue_phaseError (n : AxisNo) (h : Option HostAction) :
    (s.requeue q).phaseError n h = (s.phaseError n h).requeue q := by
  have taken : (s.requeue q).errorTaken n h = (s.errorTaken n h).requeue q := by
    unfold State.errorTaken
    exact congrArg (State.perform h) (State.requeue_offerIf q (s.setAxis n (s.axis n).withError) _ _ _)
  rw [State.phaseError_eq, State.phaseError_eq, taken, apply_ite (State.requeue q)]
  rfl

theorem State.requeue_takeEvaluation (e : AxisEvent) : (s.requeue q).takeEvaluation e = (s.takeEvaluation e).requeue q := by
  have evaluate : (s.requeue q).evaluate e = (s.evaluate e).requeue q := by
    have pair : (s.requeue q).takePair e.axis = (s.takePair e.axis).requeue q := rfl
    rw [State.evaluate_eq, State.evaluate_eq, pair, show (s.requeue q).axis e.axis = s.axis e.axis from rfl]
    split
    · exact State.requeue_countStep q _ _ _ _
    · exact State.requeue_countStep q _ _ _ _
    · exact State.requeue_phaseError q _ _ _
    · rfl
    · rfl
  unfold State.takeEvaluation
  rw [evaluate, apply_ite (State.requeue q)]
  rfl

theorem State.requeue_takeIndex (n : AxisNo) (h : Option HostAction) :
    (s.requeue q).takeIndex n h = (s.takeIndex n h).requeue q := by
  have indexed : (s.requeue q).indexed n h = (s.indexed n h).requeue q := by
    unfold State.indexed
    exact congrArg (State.perform h) (State.requeue_offerIf q s _ _ _)
  rw [State.takeIndex_eq, State.takeIndex_eq, indexed, apply_ite (State.requeue q)]
  rfl

theorem State.requeue_takeZChange (e : AxisEvent) : (s.requeue q).takeZChange e = (s.takeZChange e).requeue q := by
  by_cases hz : (s.axis e.axis).zChanged = true
  · by_cases hq : (s.axis e.axis).qualifiedIndex = true
    · rw [s.takeZChange_of_qualified e hz hq, (s.requeue q).takeZChange_of_qualified e hz hq]
      exact State.requeue_takeIndex q (s.setAxis e.axis { s.axis e.axis with zChanged := false }) e.axis e.between
    · rw [s.takeZChange_of_unqualified e hz hq, (s.requeue q).takeZChange_of_unqualified e hz hq]
      rfl
  · have hz := Bool.eq_false_iff.mpr hz
    rw [s.takeZChange_of_none e hz, (s.requeue q).takeZChange_of_none e hz]
    rfl

theorem State.requeue_readyEdge (n : TriggerNo) : (s.requeue q).readyEdge n = (s.readyEdge n).requeue q := by
  simp only [State.readyEdge]
  rw [State.requeue_offerIf q s, show (s.requeue q).trigger n = s.trigger n from rfl]
  split <;> rfl

theorem State.requeue_takeLevelChange (n : TriggerNo) :
    (s.requeue q).takeLevelChange n = (s.takeLevelChange n).requeue q := by
  have edge : ((s.requeue q).handOn n).takeEdge n = ((s.handOn n).takeEdge n).requeue q := by
    unfold State.takeEdge
    rw [show ((s.requeue q).handOn n).trigger n = (s.handOn n).trigger n from rfl]
    split
    · exact State.requeue_readyEdge q (s.handOn n) n
    · rfl
  cases hc : (s.trigger n).changed with
  | false => rw [State.takeLevelChange_of_none hc, State.takeLevelChange_of_none (s := s.requeue q) hc]
  | true =>
    rw [State.takeLevelChange_of_changed hc, State.takeLevelChange_of_changed (s := s.requeue q) hc, edge,
      apply_ite (State.requeue q)]
    rfl

theorem State.requeue_takeSyncChange : (s.requeue q).takeSyncChange = s.takeSyncChange.requeue q := by
  have sync : (s.requeue q).takenSync.takeSync = s.takenSync.takeSync.requeue q := by
    unfold State.takeSync
    rw [show (s.requeue q).takenSync.timebase = s.takenSync.timebase from rfl]
    split
    · rfl
    · exact State.requeue_offerIf q s.takenSync _ _ _
  cases hc : s.timebase.changed with
  | false => rw [State.takeSyncChange_of_none hc, State.takeSyncChange_of_none (s := s.requeue q) hc]
  | true =>
    rw [State.takeSyncChange_of_changed hc, State.takeSyncChange_of_changed (s := s.requeue q) hc, sync,
      apply_ite (State.requeue q)]
    rfl

theorem FallsWithTick.ready_requeue {c : Instr} {ready : State → Bool} {event : State → State}
    (hf : FallsWithTick c ready event) : ready (s.requeue q) = ready s := by
  cases hf with
  | sample f => cases f <;> rfl
  | width l | gap l | holdoff n | latch => rfl

theorem FallsWithTick.requeue_when {c : Instr} {ready : State → Bool} {event : State → State}
    (hf : FallsWithTick c ready event) : (s.requeue q).when ready event = (s.when ready event).requeue q := by
  have blind : event (s.requeue q) = (event s).requeue q := by
    cases hf with
    | sample f => cases f <;> rfl
    | width l | gap l | holdoff n | latch => rfl
  rw [State.when, State.when, hf.ready_requeue q s, blind, apply_ite (State.requeue q)]

end

end Sys2Proof.Machine
end

section
/-! What the events of the sample points and the expiries take, and what they leave for later (R1, R77, R91, R108, R112, R127,
R155): an event that is taken is not there again, and none makes another of them fall due. -/
namespace Sys2Proof.Machine

/-! ## The axes -/

section
variable (s : State)

theorem State.axes_set_axis (n : AxisNo) : s.axes.set n (s.axis n) = s.axes := by
  rw [State.axis, Fin.getElem_fin]
  exact Vector.set_getElem_self _

/-- The decoder's event writes its own axis, which has nothing left to evaluate. -/
theorem State.takeEvaluation_axes (e : AxisEvent) : ∃ y : Axis, (s.takeEvaluation e).axes = s.axes.set e.axis y ∧
    y.divider = (s.axis e.axis).divider ∧ y.zChanged = (s.axis e.axis).zChanged ∧ y.toEvaluate = false := by
  have evaluated : ∀ y : Axis, y.phase = y.filtered → y.toEvaluate = false := fun y h => by
    simp [Axis.toEvaluate, h]
  have pair : ∀ z : Axis, (s.takePair e.axis).axes.set e.axis z = s.axes.set e.axis z := fun z => by
    rw [State.takePair, State.setAxis_axes, Vector.set_set]
  obtain ⟨hn, h⟩ | ⟨_, h⟩ := s.takeEvaluation_cases e <;> rw [h]
  · exact ⟨_, (s.axes_set_axis e.axis).symm, rfl, rfl, hn⟩
  obtain ⟨d, _, h⟩ | ⟨_, h⟩ | ⟨_, h⟩ := s.evaluate_cases e <;> rw [h]
  · have axes : ((s.takePair e.axis).countStep e.axis e.between d).axes =
        (s.takePair e.axis).axes.set e.axis (((s.takePair e.axis).axis e.axis).move d) := by rw [State.countStep_frame]
    refine ⟨_, axes.trans (pair _), ?_⟩
    rw [State.takePair_axis_self, Axis.move_frame]
    exact ⟨rfl, rfl, evaluated _ rfl⟩
  · refine ⟨_, (State.phaseError_axes _ _ _).trans (pair _), ?_⟩
    rw [State.takePair_axis_self]
    exact ⟨rfl, rfl, evaluated _ rfl⟩
  · exact ⟨_, rfl, rfl, rfl, evaluated _ rfl⟩

/-- The index unit's event writes its own axis, whose change is taken. -/
theorem State.takeZChange_axes (e : AxisEvent) : ∃ y : Axis, (s.takeZChange e).axes = s.axes.set e.axis y ∧
    y.divider = (s.axis e.axis).divider ∧ y.toEvaluate = (s.axis e.axis).toEvaluate ∧ y.zChanged = false := by
  have index : ∀ x : Axis, x.zChanged = false → ∃ y : Axis,
      ((s.setAxis e.axis x).takeIndex e.axis e.between).axes = s.axes.set e.axis y ∧
      y.divider = x.divider ∧ y.toEvaluate = x.toEvaluate ∧ y.zChanged = false := fun x hx => by
    rw [State.takeIndex_eq]
    split
    · have axis : ((s.setAxis e.axis x).indexed e.axis e.between).axis e.axis = x := by
        rw [State.axis, State.indexed_axes]
        exact s.setAxis_axis_self e.axis x
      refine ⟨{ x.load x.config.reference 0 with homing := .referenced }, ?_, rfl, rfl, hx⟩
      rw [State.homingLoad, State.offer_axes, State.setAxis_axes, State.indexed_axes, State.setAxis_axes, Vector.set_set, axis]
    · exact ⟨x, State.indexed_axes _ _, rfl, rfl, hx⟩
  obtain ⟨hn, h⟩ | ⟨_, _, h⟩ | ⟨_, _, h⟩ := s.takeZChange_cases e <;> rw [h]
  · exact ⟨_, (s.axes_set_axis e.axis).symm, rfl, rfl, hn⟩
  · exact ⟨_, rfl, rfl, rfl, rfl⟩
  · exact index { s.axis e.axis with zChanged := false } rfl

end

/-! ## The triggers -/

/-- A later timer: the same, stopped, or started since with more than one tick to count. -/
def Later (a b : Option Nat) : Prop := b = a ∨ b = none ∨ ∃ k, b = some (k + 2)

theorem later_refl (a : Option Nat) : Later a a := .inl rfl

theorem Later.trans {a b c : Option Nat} (h : Later a b) (h' : Later b c) : Later a c := by
  obtain rfl | h' := h'
  · exact h
  · exact .inr h'

/-- A timer of one interval unit or more is not over at the next tick. -/
theorem later_start (a : Option Nat) {w : Nat} {x : BitVec w} (h : x ≠ 0) :
    Later a (some (Config.ticksPerInterval * x.toNat)) := by
  have : x.toNat ≠ 0 := fun h0 => h (BitVec.eq_of_toNat_eq (by simpa using h0))
  exact .inr (.inr ⟨10 * x.toNat - 2, congrArg some (by show 10 * x.toNat = _; omega)⟩)

theorem Trigger.startHoldoff_later (x : Trigger) : x.startHoldoff.divider = x.divider ∧
    x.startHoldoff.changed = x.changed ∧ Later x.timer x.startHoldoff.timer := by
  unfold Trigger.startHoldoff
  split
  · exact ⟨rfl, rfl, later_refl _⟩
  · exact ⟨rfl, rfl, later_start _ ‹_›⟩

section
variable (s : State)

theorem State.triggers_set_trigger (n : TriggerNo) : s.triggers.set n (s.trigger n) = s.triggers := by
  rw [State.trigger, Fin.getElem_fin]
  exact Vector.set_getElem_self _

/-- The trigger unit's event writes its own trigger, whose change is taken. -/
theorem State.takeLevelChange_triggers (n : TriggerNo) : ∃ y : Trigger,
    (s.takeLevelChange n).triggers = s.triggers.set n y ∧ y.divider = (s.trigger n).divider ∧ y.changed = false ∧
    Later (s.trigger n).timer y.timer := by
  have handed : ∀ y : Trigger, (s.handOn n).triggers.set n y = s.triggers.set n y := fun y => by
    rw [State.handOn, State.setTrigger_triggers, Vector.set_set]
  cases hc : (s.trigger n).changed with
  | false =>
    rw [State.takeLevelChange_of_none hc]
    exact ⟨_, (s.triggers_set_trigger n).symm, rfl, hc, later_refl _⟩
  | true =>
    rw [State.takeLevelChange_of_changed hc]
    split
    · cases hs : ((s.handOn n).trigger n).state with
      | holdoff =>
        rw [State.takeEdge_holdoff hs, s.handOn_trigger]
        exact ⟨_, handed _, rfl, rfl, later_refl _⟩
      | ready =>
        rw [State.takeEdge_ready hs, State.readyEdge_triggers, s.handOn_trigger]
        exact ⟨_, handed _, Trigger.startHoldoff_later _⟩
    · exact ⟨_, rfl, rfl, rfl, later_refl _⟩

end

/-! ## The lines -/

theorem Line.take_later {x : Line} (h : x.Sound) (k : RequestKind) :
    Later x.widthTimer (x.take k).widthTimer ∧ Later x.gapTimer (x.take k).gapTimer := by
  have level : ∀ v, Later x.widthTimer (x.setLevel v).widthTimer ∧ Later x.gapTimer (x.setLevel v).gapTimer := fun v =>
    ⟨.inr (.inl rfl), .inr (.inl rfl)⟩
  cases k with
  | pulse =>
    simp only [Line.take]
    split
    · exact ⟨later_start _ h.1, .inr (.inl rfl)⟩
    · unfold Line.collide
      split
      · exact ⟨later_start _ h.1, later_refl _⟩
      · exact ⟨later_refl _, later_refl _⟩
      · exact ⟨later_refl _, later_refl _⟩
  | set => exact level true
  | clear => exact level false
  | toggle => exact level _

theorem Line.expireWidth_later {x : Line} (h : x.Sound) :
    Later x.widthTimer x.expireWidth.widthTimer ∧ Later x.gapTimer x.expireWidth.gapTimer := by
  unfold Line.expireWidth
  split
  · exact ⟨.inr (.inl rfl), later_refl _⟩
  · exact ⟨.inr (.inl rfl), later_start _ h.2.1⟩
  · exact ⟨later_refl _, later_refl _⟩
  · exact ⟨later_refl _, later_refl _⟩

theorem Line.expireGap_later {x : Line} (h : x.Sound) :
    Later x.widthTimer x.expireGap.widthTimer ∧ Later x.gapTimer x.expireGap.gapTimer := by
  unfold Line.expireGap
  split
  · exact ⟨later_start _ h.1, .inr (.inl rfl)⟩
  · exact ⟨later_refl _, later_refl _⟩

/-- The timers of every line are later ones. -/
def State.LinesLater (s t : State) : Prop :=
  ∀ l, Later (s.line l).widthTimer (t.line l).widthTimer ∧ Later (s.line l).gapTimer (t.line l).gapTimer

section
variable {s t u : State}

theorem State.LinesLater.of_eq (h : s.LinesLater t) (e : u.lines = t.lines) : s.LinesLater u := fun l => by
  rw [show u.line l = t.line l by rw [State.line, State.line, e]]
  exact h l

theorem State.linesLater_of_lines (e : t.lines = s.lines) : s.LinesLater t :=
  State.LinesLater.of_eq (t := s) (fun _ => ⟨later_refl _, later_refl _⟩) e

theorem State.linesLater_setLine (l : LineNo) {x : Line}
    (h : Later (s.line l).widthTimer x.widthTimer ∧ Later (s.line l).gapTimer x.gapTimer) :
    s.LinesLater (s.setLine l x) := fun m => by
  rw [State.setLine_line]
  split
  · subst m; exact h
  · exact ⟨later_refl _, later_refl _⟩

theorem State.LinesSound.later_request (h : s.LinesSound) (l : LineNo) (k : RequestKind) : s.LinesLater (s.request l k) :=
  (State.linesLater_setLine l (Line.take_later (h l) k)).of_eq rfl

theorem State.LinesSound.later_arrival (h : s.LinesSound) (n : AxisNo) : s.LinesLater (s.arrival n) := by
  obtain e | ⟨k, _, _, _, _, _, e⟩ := s.arrival_cases n <;> rw [e]
  · exact State.linesLater_of_lines rfl
  · refine State.LinesLater.of_eq ?_ (s.fire_lines n k)
    obtain ⟨_, e⟩ | ⟨q, _, e⟩ := s.sendOutput_cases (s.entry k) <;> rw [e]
    · exact State.linesLater_of_lines rfl
    · exact h.later_request _ q

theorem State.LinesSound.later_takeEvaluation (h : s.LinesSound) (e : AxisEvent) : s.LinesLater (s.takeEvaluation e) := by
  obtain ⟨_, he⟩ | ⟨_, he⟩ := s.takeEvaluation_cases e <;> rw [he]
  · exact State.linesLater_of_lines rfl
  obtain ⟨d, _, he⟩ | ⟨_, he⟩ | ⟨_, he⟩ := s.evaluate_cases e <;> rw [he]
  · rw [State.countStep_eq]
    have lines : ((s.takePair e.axis).stepped e.axis e.between d).lines = s.lines := by rw [State.stepped_frame]; rfl
    have later := (h.of_eq lines).later_arrival e.axis
    intro l
    rw [← show ((s.takePair e.axis).stepped e.axis e.between d).line l = s.line l by rw [State.line, State.line, lines]]
    exact later l
  · exact State.linesLater_of_lines (by rw [State.phaseError_frame]; rfl)
  · exact State.linesLater_of_lines rfl

theorem State.LinesSound.later_takeLevelChange (h : s.LinesSound) (n : TriggerNo) : s.LinesLater (s.takeLevelChange n) := by
  cases hc : (s.trigger n).changed with
  | false => rw [State.takeLevelChange_of_none hc]; exact State.linesLater_of_lines rfl
  | true =>
    have handed : (s.handOn n).LinesSound := h
    rw [State.takeLevelChange_of_changed hc]
    split
    · cases hs : ((s.handOn n).trigger n).state with
      | holdoff => rw [State.takeEdge_holdoff hs]; exact State.linesLater_of_lines rfl
      | ready =>
        rw [State.takeEdge_ready hs]
        obtain e | ⟨l, k, e⟩ := (s.handOn n).readyEdge_lines n
        · exact State.linesLater_of_lines e
        · exact (handed.later_request l k).of_eq e
    · exact State.linesLater_of_lines rfl

end

end Sys2Proof.Machine
end

section
/-! The part under the events that a tick ends: which of its conditions stay, and that none of them falls due by another
event (R1, R91, R112, R154, R155). -/
namespace Sys2Proof.Machine

/-! ## The age timer under offers -/

/-- The hold time stays, and the age timer runs on or has started since (R154). -/
def Journal.Ages (j k : Journal) : Prop := k.holdTime = j.holdTime ∧ (k.age = j.age ∨ k.age = some .start)

theorem Journal.ages_refl (j : Journal) : j.Ages j := ⟨rfl, .inl rfl⟩

theorem Journal.Ages.trans {i j k : Journal} (h : i.Ages j) (h' : j.Ages k) : i.Ages k := by
  obtain ⟨hold, age⟩ := h
  obtain ⟨hold', age'⟩ := h'
  refine ⟨hold'.trans hold, ?_⟩
  obtain e | e := age'
  · rw [e]; exact age
  · exact .inr e

theorem Journal.ages_offer (j : Journal) (o : Offer) : j.Ages (j.offer o) := by
  refine ⟨rfl, ?_⟩
  simp only [Journal.offer]
  split
  · exact .inr rfl
  · exact .inl rfl

section
variable (s : State)

theorem State.ages_offerIf (b : Bool) (src : Source) (c : Content) : s.journal.Ages (s.offerIf b src c).journal := by
  cases b with
  | false => exact s.journal.ages_refl
  | true => exact s.journal.ages_offer _

theorem State.ages_fire (n : AxisNo) (k : Slot) : s.journal.Ages (s.fire n k).journal := by
  rw [State.fire_journal]
  have sent : (s.sendOutput (s.entry k)).journal = s.journal := by rw [State.sendOutput_frame]
  have offered := State.ages_offerIf (s.sendOutput (s.entry k)) ((s.entry k).record ≠ .none) (.schedule n)
    (s.entryRecord .compare (s.axis n).sampledAt n k ((s.entry k).remaining - 1)
      (if (s.entry k).record = .gang then some s.gang else none))
  rw [sent] at offered
  exact offered

theorem State.ages_arrival (n : AxisNo) : s.journal.Ages (s.arrival n).journal := by
  obtain e | ⟨k, _, _, _, _, _, e⟩ := s.arrival_cases n <;> rw [e]
  · exact s.journal.ages_refl
  · exact s.ages_fire n k

theorem State.ages_takeEvaluation (n : AxisNo) : s.journal.Ages (s.takeEvaluation { axis := n }).journal := by
  obtain ⟨_, he⟩ | ⟨_, he⟩ := s.takeEvaluation_cases { axis := n } <;> rw [he]
  · exact s.journal.ages_refl
  obtain ⟨d, _, he⟩ | ⟨_, he⟩ | ⟨_, he⟩ := s.evaluate_cases { axis := n } <;> rw [he]
  · have stepped : s.journal.Ages ((s.takePair n).stepped n none d).journal :=
      State.ages_offerIf ((s.takePair n).setAxis n (((s.takePair n).axis n).move d)) _ _ _
    exact stepped.trans (State.ages_arrival _ n)
  · have taken : s.journal.Ages ((s.takePair n).errorTaken n none).journal :=
      State.ages_offerIf ((s.takePair n).setAxis n ((s.takePair n).axis n).withError) _ _ _
    rw [State.phaseError_eq]
    split
    · exact taken.trans (Journal.ages_offer _ _)
    · exact taken
  · exact s.journal.ages_refl

theorem State.ages_takeZChange (n : AxisNo) : s.journal.Ages (s.takeZChange { axis := n }).journal := by
  obtain ⟨_, h⟩ | ⟨_, _, h⟩ | ⟨_, _, h⟩ := s.takeZChange_cases { axis := n } <;> rw [h]
  · exact s.journal.ages_refl
  · exact s.journal.ages_refl
  · have indexed : s.journal.Ages ((s.setAxis n { s.axis n with zChanged := false }).indexed n none).journal :=
      State.ages_offerIf (s.setAxis n { s.axis n with zChanged := false }) _ _ _
    rw [State.takeIndex_eq]
    split
    · exact indexed.trans (Journal.ages_offer _ _)
    · exact indexed

theorem State.ages_takeLevelChange (n : TriggerNo) : s.journal.Ages (s.takeLevelChange n).journal := by
  have ready : (s.handOn n).journal.Ages ((s.handOn n).readyEdge n).journal := by
    simp only [State.readyEdge]
    split <;> exact State.ages_offerIf (s.handOn n) _ _ _
  cases hc : (s.trigger n).changed with
  | false => rw [State.takeLevelChange_of_none hc]; exact s.journal.ages_refl
  | true =>
    rw [State.takeLevelChange_of_changed hc]
    split
    · cases hs : ((s.handOn n).trigger n).state with
      | holdoff => rw [State.takeEdge_holdoff hs]; exact s.journal.ages_refl
      | ready => rw [State.takeEdge_ready hs]; exact ready
    · exact s.journal.ages_refl

theorem State.ages_takeSyncChange : s.journal.Ages s.takeSyncChange.journal := by
  cases hc : s.timebase.changed with
  | false => rw [State.takeSyncChange_of_none hc]; exact s.journal.ages_refl
  | true =>
    rw [State.takeSyncChange_of_changed hc]
    split
    · cases hs : s.takenSync.timebase.syncState with
      | armed => rw [State.takeSync_armed hs]; exact s.journal.ages_offer _
      | free => rw [State.takeSync_free hs]; exact State.ages_offerIf s.takenSync _ _ _
    · exact s.journal.ages_refl

end

/-! ## What the events of a tick leave -/

/-- The second state is the first after events of the sample points and expiries: the dividers stand, and a timer that is over
was over before (R91, R112, R154). -/
structure State.Calm (s t : State) : Prop where
  counted : t.counted = s.counted
  inReset : t.inReset = s.inReset
  divider : ∀ n, (t.axis n).divider = (s.axis n).divider
  triggerDivider : ∀ n, (t.trigger n).divider = (s.trigger n).divider
  timer : ∀ n, Later (s.trigger n).timer (t.trigger n).timer
  lines : s.LinesLater t
  sampleDue : t.timebase.sampleDue = s.timebase.sampleDue
  ages : s.journal.Ages t.journal

theorem State.calm_refl (s : State) : s.Calm s :=
  ⟨rfl, rfl, fun _ => rfl, fun _ => rfl, fun _ => later_refl _, State.linesLater_of_lines rfl, rfl, s.journal.ages_refl⟩

theorem State.Calm.trans {s t u : State} (h : s.Calm t) (h' : t.Calm u) : s.Calm u where
  counted := h'.counted.trans h.counted
  inReset := h'.inReset.trans h.inReset
  divider n := (h'.divider n).trans (h.divider n)
  triggerDivider n := (h'.triggerDivider n).trans (h.triggerDivider n)
  timer n := (h.timer n).trans (h'.timer n)
  lines l := ⟨(h.lines l).1.trans (h'.lines l).1, (h.lines l).2.trans (h'.lines l).2⟩
  sampleDue := h'.sampleDue.trans h.sampleDue
  ages := h.ages.trans h'.ages

section
variable {s t : State}

theorem State.axis_of_axes_set {n : AxisNo} {y : Axis} (h : t.axes = s.axes.set n y) (m : AxisNo) :
    t.axis m = if n = m then y else s.axis m := by
  rw [show t.axis m = (s.setAxis n y).axis m by rw [State.axis, h]; rfl, State.setAxis_axis]

theorem State.trigger_of_triggers_set {n : TriggerNo} {y : Trigger} (h : t.triggers = s.triggers.set n y) (m : TriggerNo) :
    t.trigger m = if n = m then y else s.trigger m := by
  rw [show t.trigger m = (s.setTrigger n y).trigger m by rw [State.trigger, h]; rfl, State.setTrigger_trigger]

theorem State.divider_of_axes_set {n : AxisNo} {y : Axis} (h : t.axes = s.axes.set n y)
    (hd : y.divider = (s.axis n).divider) (m : AxisNo) : (t.axis m).divider = (s.axis m).divider := by
  rw [State.axis_of_axes_set h]
  split
  · subst m; exact hd
  · rfl

theorem State.LinesSound.calm_takeEvaluation (h : s.LinesSound) (n : AxisNo) :
    s.Calm (s.takeEvaluation { axis := n }) := by
  obtain ⟨y, axes, hd, _, _⟩ := s.takeEvaluation_axes { axis := n }
  have divider := State.divider_of_axes_set axes hd
  have lines := h.later_takeEvaluation { axis := n }
  have ages := s.ages_takeEvaluation n
  have frame := s.takeEvaluation_frame { axis := n }
  refine ⟨?_, ?_, divider, ?_, ?_, lines, ?_, ages⟩ <;> rw [frame]
  · exact fun _ => rfl
  · exact fun _ => later_refl _

theorem State.calm_takeZChange (s : State) (n : AxisNo) : s.Calm (s.takeZChange { axis := n }) := by
  obtain ⟨y, axes, hd, _, _⟩ := s.takeZChange_axes { axis := n }
  have divider := State.divider_of_axes_set axes hd
  have ages := s.ages_takeZChange n
  have frame := s.takeZChange_frame { axis := n }
  refine ⟨?_, ?_, divider, ?_, ?_, ?_, ?_, ages⟩ <;> rw [frame]
  · exact fun _ => rfl
  · exact fun _ => later_refl _
  · exact State.linesLater_of_lines rfl

theorem State.LinesSound.calm_takeLevelChange (h : s.LinesSound) (n : TriggerNo) : s.Calm (s.takeLevelChange n) := by
  obtain ⟨y, triggers, hd, _, hl⟩ := s.takeLevelChange_triggers n
  have trigger := State.trigger_of_triggers_set triggers
  have lines := h.later_takeLevelChange n
  have ages := s.ages_takeLevelChange n
  have frame := s.takeLevelChange_frame n
  refine ⟨by rw [frame], by rw [frame], by rw [frame]; exact fun _ => rfl, fun m => ?_, fun m => ?_, lines, by rw [frame], ages⟩
  · rw [trigger]
    split
    · subst m; exact hd
    · rfl
  · rw [trigger]
    split
    · subst m; exact hl
    · exact later_refl _

/-- The SYNC event leaves the sample point of SYNC and takes its change. -/
theorem State.takeSyncChange_marks (s : State) : s.takeSyncChange.timebase.sampleDue = s.timebase.sampleDue ∧
    s.takeSyncChange.timebase.changed = false := by
  cases hc : s.timebase.changed with
  | false => rw [State.takeSyncChange_of_none hc]; exact ⟨rfl, hc⟩
  | true =>
    rw [State.takeSyncChange_of_changed hc]
    split
    · cases hs : s.takenSync.timebase.syncState with
      | armed => rw [State.takeSync_armed hs]; exact ⟨rfl, rfl⟩
      | free => rw [State.takeSync_free hs, State.offerIf_timebase]; exact ⟨rfl, rfl⟩
    · exact ⟨rfl, rfl⟩

theorem State.calm_takeSyncChange (s : State) : s.Calm s.takeSyncChange := by
  have due := s.takeSyncChange_marks.1
  have ages := s.ages_takeSyncChange
  have frame := s.takeSyncChange_frame
  refine ⟨?_, ?_, ?_, ?_, ?_, ?_, due, ages⟩ <;> rw [frame]
  · exact fun _ => rfl
  · exact fun _ => rfl
  · exact fun _ => later_refl _
  · exact State.linesLater_of_lines rfl

theorem State.calm_setLine {l : LineNo} {x : Line}
    (h : Later (s.line l).widthTimer x.widthTimer ∧ Later (s.line l).gapTimer x.gapTimer) : s.Calm (s.setLine l x) :=
  ⟨rfl, rfl, fun _ => rfl, fun _ => rfl, fun _ => later_refl _, State.linesLater_setLine l h, rfl, s.journal.ages_refl⟩

theorem State.calm_expireHoldoff (s : State) (n : TriggerNo) : s.Calm (s.expireHoldoff n) where
  counted := rfl
  inReset := rfl
  divider _ := rfl
  triggerDivider m := by
    rw [State.expireHoldoff, State.setTrigger_trigger]
    split
    · subst m; rfl
    · rfl
  timer m := by
    rw [State.expireHoldoff, State.setTrigger_trigger]
    split
    · exact .inr (.inl rfl)
    · exact later_refl _
  lines := State.linesLater_of_lines rfl
  sampleDue := rfl
  ages := s.journal.ages_refl

theorem State.calm_setAgeLatch (s : State) : s.Calm s.setAgeLatch :=
  ⟨rfl, rfl, fun _ => rfl, fun _ => rfl, fun _ => later_refl _, State.linesLater_of_lines rfl, rfl, rfl, .inl rfl⟩

/-- What the events that a tick ends keep of a part: its lines are sound, and nothing new is due. -/
structure State.Since (s t : State) : Prop where
  lines : t.LinesSound
  calm : s.Calm t

theorem State.Since.step {u : State} (h : s.Since t) (lines : u.LinesSound) (calm : t.Calm u) : s.Since u :=
  ⟨lines, h.calm.trans calm⟩

/-- The expiries of the tick before (R91, R112, R155). -/
inductive IsExpiry : Instr → (State → Bool) → (State → State) → Prop
  | width (l : LineNo) : IsExpiry (.widthExpiry l) (State.widthOver l) (State.expireWidth l)
  | gap (l : LineNo) : IsExpiry (.gapExpiry l) (State.gapOver l) (State.expireGap l)
  | holdoff (n : TriggerNo) : IsExpiry (.holdoffExpiry n) (State.holdoffOver n) (State.expireHoldoff n)
  | latch : IsExpiry .ageLatchSet State.aged State.setAgeLatch

theorem IsExpiry.fallsWithTick {c : Instr} {ready : State → Bool} {event : State → State} (h : IsExpiry c ready event) :
    FallsWithTick c ready event := by
  cases h with
  | width l => exact .width l
  | gap l => exact .gap l
  | holdoff n => exact .holdoff n
  | latch => exact .latch

theorem State.Since.expiry {c : Instr} {ready : State → Bool} {event : State → State} (h : s.Since t)
    (he : IsExpiry c ready event) : s.Since (event t) := by
  cases he with
  | width l => exact h.step (h.lines.of_set rfl (h.lines l).expireWidth) (State.calm_setLine (Line.expireWidth_later (h.lines l)))
  | gap l => exact h.step (h.lines.of_set rfl (h.lines l).expireGap) (State.calm_setLine (Line.expireGap_later (h.lines l)))
  | holdoff n => exact h.step h.lines (t.calm_expireHoldoff n)
  | latch => exact h.step h.lines t.calm_setAgeLatch

theorem State.Since.takeEvaluation (h : s.Since t) (n : AxisNo) : s.Since (t.takeEvaluation { axis := n }) :=
  h.step (h.lines.takeEvaluation _) (h.lines.calm_takeEvaluation n)

theorem State.Since.takeZChange (h : s.Since t) (n : AxisNo) : s.Since (t.takeZChange { axis := n }) :=
  h.step (h.lines.of_eq (by rw [t.takeZChange_frame])) (t.calm_takeZChange n)

theorem State.Since.takeLevelChange (h : s.Since t) (n : TriggerNo) : s.Since (t.takeLevelChange n) :=
  h.step (h.lines.takeLevelChange n) (h.lines.calm_takeLevelChange n)

theorem State.Since.takeSyncChange (h : s.Since t) : s.Since t.takeSyncChange :=
  h.step (h.lines.of_eq (by rw [t.takeSyncChange_frame])) t.calm_takeSyncChange

theorem State.Since.takeSampled (h : s.Since t) : s.Since t.takeSampled :=
  State.Since.takeSyncChange (foldl_keeps _ s.Since _ (fun n _ ht => ht.takeLevelChange n) _
    (foldl_keeps _ s.Since _ (fun n _ ht => (ht.takeEvaluation n).takeZChange n) _ h))

theorem State.Since.takeExpiries (h : s.Since t) : s.Since t.takeExpiries :=
  t.takeExpiries_keeps s.Since (fun n _ ht _ => ht.expiry (.holdoff n)) (fun l _ ht _ => ht.expiry (.width l))
    (fun l _ ht _ => ht.expiry (.gap l)) (fun _ ht _ => ht.expiry .latch) h

end

end Sys2Proof.Machine
end

section
/-! What is left of the tick before, taken: nothing of it is there any more, and what was not due then is not due now (R1, R77,
R91, R108, R112, R127, R155). -/
namespace Sys2Proof.Machine

/-! ## The events of the sample points are taken -/

/-- Every event of a list is there after the fold, when its own step brings it and no step ends it. -/
theorem foldl_brings {α : Type} (I : State → Prop) (P : α → State → Prop) (f : State → α → State)
    (hI : ∀ a t, I t → I (f t a)) (brings : ∀ a t, I t → P a (f t a)) (keeps : ∀ a b t, I t → P b t → P b (f t a))
    (as : List α) {s : State} (h : I s) : I (as.foldl f s) ∧ ∀ a, a ∈ as ∨ P a s → P a (as.foldl f s) := by
  induction as generalizing s with
  | nil => exact ⟨h, fun a ha => ha.resolve_left List.not_mem_nil⟩
  | cons b as ih =>
    obtain ⟨hI', ih⟩ := ih (hI b s h)
    refine ⟨hI', fun a ha => ih a ?_⟩
    obtain ha | ha := ha
    · obtain rfl | ha := List.mem_cons.mp ha
      · exact .inr (brings a s h)
      · exact .inl ha
    · exact .inr (keeps b a s h ha)

/-- An axis has nothing left of its sample points. -/
def State.AxisTaken (m : AxisNo) (s : State) : Prop := (s.axis m).toEvaluate = false ∧ (s.axis m).zChanged = false

/-- The events of an axis at its sample point take both, and leave those of the other axes. -/
theorem State.axisTaken_step (s : State) (n m : AxisNo) (h : n = m ∨ s.AxisTaken m) :
    ((s.takeEvaluation { axis := n }).takeZChange { axis := n }).AxisTaken m := by
  obtain ⟨y, evaluated, _, hz, he⟩ := s.takeEvaluation_axes { axis := n }
  obtain ⟨z, taken, _, he', hz'⟩ := (s.takeEvaluation { axis := n }).takeZChange_axes { axis := n }
  have axis := State.axis_of_axes_set evaluated
  unfold State.AxisTaken
  rw [State.axis_of_axes_set taken]
  split
  · refine ⟨?_, hz'⟩
    rw [he', axis, if_pos rfl]
    exact he
  · rename_i hne
    rw [axis, if_neg hne]
    exact h.resolve_left hne

theorem State.triggerTaken_step (s : State) (n m : TriggerNo) (h : n = m ∨ (s.trigger m).changed = false) :
    ((s.takeLevelChange n).trigger m).changed = false := by
  obtain ⟨y, triggers, _, hc, _⟩ := s.takeLevelChange_triggers n
  rw [State.trigger_of_triggers_set triggers]
  split
  · exact hc
  · exact h.resolve_left ‹_›

theorem State.AxisTaken.of_eq {s t : State} {m : AxisNo} (h : s.AxisTaken m) (e : t.axes = s.axes) : t.AxisTaken m := by
  unfold State.AxisTaken State.axis at h ⊢
  rw [e]
  exact h

theorem State.takeSyncChange_samplesTaken (s : State) (axes : ∀ m, s.AxisTaken m)
    (triggers : ∀ m, (s.trigger m).changed = false) : s.takeSyncChange.SamplesTaken := by
  have changed := s.takeSyncChange_marks.2
  have axes' : s.takeSyncChange.axes = s.axes := by rw [s.takeSyncChange_frame]
  have triggers' : s.takeSyncChange.triggers = s.triggers := by rw [s.takeSyncChange_frame]
  exact ⟨fun m => (axes m).of_eq axes', fun m => by rw [State.trigger, triggers']; exact triggers m, changed⟩

/-- Nothing of the sample points is left once it is taken (R1, R77, R108, R127). -/
theorem State.takeSampled_samplesTaken (s : State) : s.takeSampled.SamplesTaken := by
  obtain ⟨_, axes⟩ := foldl_brings (fun _ => True) State.AxisTaken
    (fun t n => (t.takeEvaluation { axis := n }).takeZChange { axis := n }) (fun _ _ _ => trivial)
    (fun n t _ => t.axisTaken_step n n (.inl rfl)) (fun n m t _ h => t.axisTaken_step n m (.inr h)) [0, 1, 2, 3]
    (s := s) trivial
  have axes : ∀ m, State.AxisTaken m (([0, 1, 2, 3] : List AxisNo).foldl
      (fun t n => (t.takeEvaluation { axis := n }).takeZChange { axis := n }) s) := fun m =>
    axes m (.inl (by revert m; decide))
  obtain ⟨axes, triggers⟩ := foldl_brings (fun t => ∀ m, t.AxisTaken m) (fun n t => (t.trigger n).changed = false)
    (fun t n => t.takeLevelChange n) (fun n t h m => (h m).of_eq (by rw [t.takeLevelChange_frame n]))
    (fun n t _ => t.triggerTaken_step n n (.inl rfl)) (fun n m t _ h => t.triggerTaken_step n m (.inr h)) [0, 1, 2, 3] axes
  exact State.takeSyncChange_samplesTaken _ axes fun m => triggers m (.inl (by revert m; decide))

/-! ## The timers that are over expire -/

/-- A line after the width timer that is over has expired. -/
def Line.widthEnded (x : Line) : Line := if x.widthTimer = some 0 then x.expireWidth else x

/-- A line after the gap timer that is over has expired. -/
def Line.gapEnded (x : Line) : Line := if x.gapTimer = some 0 then x.expireGap else x

section
variable {x : Line} (h : x.Sound)
include h

theorem Line.Sound.widthEnded : x.widthEnded.Sound := by
  unfold Line.widthEnded
  split
  · exact Line.Sound.expireWidth h
  · exact h

theorem Line.Sound.gapEnded : x.gapEnded.Sound := by
  unfold Line.gapEnded
  split
  · exact Line.Sound.expireGap h
  · exact h

theorem Line.Sound.widthEnded_timer : x.widthEnded.widthTimer ≠ some 0 := by
  obtain ⟨_, _, timed⟩ := Line.sound_iff.mp h
  unfold Line.widthEnded
  split
  · unfold Line.expireWidth
    cases hs : x.state <;> simp_all [LineState.Timed]
  · assumption

theorem Line.Sound.gapEnded_timers (hw : x.widthTimer ≠ some 0) :
    x.gapEnded.widthTimer ≠ some 0 ∧ x.gapEnded.gapTimer ≠ some 0 := by
  unfold Line.gapEnded
  split
  · have gap := Line.Sound.gap_of_timer h ‹_›
    rw [Line.expireGap, if_pos gap]
    have width : x.width.toNat ≠ 0 := fun h0 => h.1 (BitVec.eq_of_toNat_eq (by simpa using h0))
    exact ⟨fun h0 => width ((Nat.mul_eq_zero.mp (Option.some.inj h0)).resolve_left (by decide)), nofun⟩
  · exact ⟨hw, ‹_›⟩

end

section
variable (s : State)

theorem State.setLine_same (l : LineNo) : s.setLine l (s.line l) = s := by
  have lines : s.lines.set l (s.line l) = s.lines := by
    rw [State.line, Fin.getElem_fin]
    exact Vector.set_getElem_self _
  rw [State.setLine, lines]

theorem State.when_widthOver (l : LineNo) :
    s.when (State.widthOver l) (State.expireWidth l) = s.setLine l (s.line l).widthEnded := by
  unfold State.when Line.widthEnded
  by_cases h : (s.line l).widthTimer = some 0
  · rw [if_pos h]
    exact if_pos (decide_eq_true h)
  · rw [if_neg h, s.setLine_same]
    exact if_neg (by simpa [State.widthOver] using h)

theorem State.when_gapOver (l : LineNo) :
    s.when (State.gapOver l) (State.expireGap l) = s.setLine l (s.line l).gapEnded := by
  unfold State.when Line.gapEnded
  by_cases h : (s.line l).gapTimer = some 0
  · rw [if_pos h]
    exact if_pos (decide_eq_true h)
  · rw [if_neg h, s.setLine_same]
    exact if_neg (by simpa [State.gapOver] using h)

theorem State.when_holdoffOver_timer (n m : TriggerNo) (h : n = m ∨ (s.trigger m).timer ≠ some 0) :
    ((s.when (State.holdoffOver n) (State.expireHoldoff n)).trigger m).timer ≠ some 0 := by
  unfold State.when
  split
  · rw [State.expireHoldoff, State.setTrigger_trigger]
    split
    · exact nofun
    · exact h.resolve_left ‹_›
  · rename_i hn
    obtain rfl | h := h
    · simpa [State.holdoffOver] using hn
    · exact h

/-- The timers of a line are not over. -/
def State.LineTaken (l : LineNo) (s : State) : Prop := (s.line l).widthTimer ≠ some 0 ∧ (s.line l).gapTimer ≠ some 0

/-- Both expiries of a line. -/
def State.endTimers (l : LineNo) (s : State) : State :=
  (s.when (State.widthOver l) (State.expireWidth l)).when (State.gapOver l) (State.expireGap l)

theorem State.endTimers_eq (l : LineNo) : s.endTimers l = s.setLine l (s.line l).widthEnded.gapEnded := by
  rw [State.endTimers, State.when_widthOver, State.when_gapOver, State.setLine_line_self, State.setLine, State.setLine,
    Vector.set_set]
  rfl

theorem State.LinesSound.endTimers {s : State} (h : s.LinesSound) (l : LineNo) : (s.endTimers l).LinesSound := by
  rw [State.endTimers_eq]
  exact h.of_set rfl (Line.Sound.gapEnded (Line.Sound.widthEnded (h l)))

theorem State.endTimers_taken {s : State} (hs : s.LinesSound) (l m : LineNo) (h : l = m ∨ s.LineTaken m) :
    (s.endTimers l).LineTaken m := by
  unfold State.LineTaken
  rw [State.endTimers_eq, State.setLine_line]
  split
  · exact Line.Sound.gapEnded_timers (Line.Sound.widthEnded (hs l)) (Line.Sound.widthEnded_timer (hs l))
  · exact h.resolve_left ‹_›

/-- The age timer that has reached the hold time has set the age latch (R155). -/
theorem State.when_aged_latch : (s.when State.aged State.setAgeLatch).aged = true →
    (s.when State.aged State.setAgeLatch).journal.ageLatch = true := by
  unfold State.when
  split
  · exact fun _ => rfl
  · exact fun h => absurd h ‹_›

theorem State.expiriesTaken_latched (triggers : ∀ m, (s.trigger m).timer ≠ some 0) (lines : ∀ m, s.LineTaken m) :
    (s.when State.aged State.setAgeLatch).ExpiriesTaken := by
  refine ⟨?_, ?_, s.when_aged_latch⟩
  · exact s.when_keeps (fun t => ∀ m, (t.trigger m).timer ≠ some 0) _ _ triggers fun _ => triggers
  · exact s.when_keeps (fun t => ∀ m, t.LineTaken m) _ _ lines fun _ => lines

/-- No timer of a part with sound lines is over once the expiries are taken (R91, R112, R155). -/
theorem State.LinesSound.takeExpiries_taken {s : State} (h : s.LinesSound) : s.takeExpiries.ExpiriesTaken := by
  obtain ⟨sound, triggers⟩ := foldl_brings State.LinesSound (fun n t => (t.trigger n).timer ≠ some 0)
    (fun t n => t.when (State.holdoffOver n) (State.expireHoldoff n))
    (fun n t ht => State.when_keeps t State.LinesSound _ _ ht fun _ => ht)
    (fun n t _ => t.when_holdoffOver_timer n n (.inl rfl)) (fun n m t _ h => t.when_holdoffOver_timer n m (.inr h))
    [0, 1, 2, 3] h
  have triggers := fun m => triggers m (.inl (by revert m; decide))
  obtain ⟨⟨_, triggers⟩, lines⟩ := foldl_brings (fun t => t.LinesSound ∧ ∀ m, (t.trigger m).timer ≠ some 0) State.LineTaken
    (fun t l => t.endTimers l) (fun l t ht => ⟨ht.1.endTimers l, by rw [State.endTimers_eq]; exact ht.2⟩)
    (fun l t ht => State.endTimers_taken ht.1 l l (.inl rfl)) (fun l m t ht h => State.endTimers_taken ht.1 l m (.inr h))
    [0, 1, 2, 3, 4, 5, 6, 7] ⟨sound, triggers⟩
  have lines := fun m => lines m (.inl (by revert m; decide))
  exact State.expiriesTaken_latched _ triggers lines

end

end Sys2Proof.Machine
end

section
/-! A tick with events left of the tick before (R1, R77, R91, R108, R112, R121, R155): they are taken as their own commands
take them, and then the tick. -/
namespace Sys2Proof.Machine

/-! ## Conditions that no event of the tick makes true -/

theorem Later.ne_zero {a b : Option Nat} (h : Later a b) (ha : a ≠ some 0) : b ≠ some 0 := by
  obtain rfl | rfl | ⟨k, rfl⟩ := h
  · exact ha
  · exact nofun
  · exact nofun

/-- A timer that was over and is not any more stays so over the next tick. -/
theorem Later.tick_ne_zero {a b c : Option Nat} (h : Later a b) (ha : a = some 0) (hb : b ≠ some 0) (h' : Later b c) :
    tickTimer c ≠ some 0 := by
  obtain rfl | rfl | ⟨k, rfl⟩ := h
  · exact absurd ha hb
  · obtain rfl | rfl | ⟨k, rfl⟩ := h'
    · exact nofun
    · exact nofun
    · exact fun e => by simp [tickTimer] at e
  · obtain rfl | rfl | ⟨k, rfl⟩ := h'
    · exact fun e => by simp [tickTimer] at e
    · exact nofun
    · exact fun e => by simp [tickTimer] at e

theorem Journal.Ages.not_aged {j k : Journal} (h : j.Ages k) (hj : j.aged j.holdTime = false) : k.aged k.holdTime = false := by
  obtain ⟨hold, age | age⟩ := h
  · rw [Journal.aged, hold, age]
    exact hj
  · rw [Bool.eq_false_iff, ne_eq, Journal.aged_iff, age]
    rintro ⟨hne, a, ha, hle⟩
    obtain rfl := Option.some.inj ha
    exact hne (BitVec.eq_of_toNat_eq (by simpa [AgeTimer.start] using hle))

/-- An age timer that had come to the hold time, and has not any more, has started since: it stays so over the next tick. -/
theorem Journal.Ages.tick_not_aged {i j k : Journal} (h : i.Ages j) (hi : i.aged i.holdTime = true)
    (hj : j.aged j.holdTime = false) (h' : j.Ages k) :
    ({ k with age := k.age.map AgeTimer.tick } : Journal).aged k.holdTime = false := by
  have started : k.age = some .start := by
    obtain ⟨hold, age | age⟩ := h
    · rw [Journal.aged, hold, age] at hj
      exact absurd (hi.symm.trans hj) nofun
    · obtain ⟨_, e | e⟩ := h'
      · exact e.trans age
      · exact e
  rw [Bool.eq_false_iff, ne_eq, Journal.aged_iff, started]
  rintro ⟨hne, a, ha, hle⟩
  obtain rfl := Option.some.inj ha
  exact hne (BitVec.eq_of_toNat_eq (by simpa [AgeTimer.tick_of_within, AgeTimer.start] using hle))

section
variable {s t u : State} {c : Instr} {ready : State → Bool} {event : State → State}

theorem FallsWithTick.not_ready_later (hf : FallsWithTick c ready event) (h : s.Calm t) (hs : ready s = false) :
    ready t = false := by
  cases hf with
  | sample f =>
    cases f with
    | axis n a b z => exact (congrArg Divider.due (h.divider n)).trans hs
    | trigger n raw => exact (congrArg Divider.due (h.triggerDivider n)).trans hs
    | sync raw => exact h.sampleDue.trans hs
  | width l => exact decide_eq_false ((h.lines l).1.ne_zero (of_decide_eq_false hs))
  | gap l => exact decide_eq_false ((h.lines l).2.ne_zero (of_decide_eq_false hs))
  | holdoff n => exact decide_eq_false ((h.timer n).ne_zero (of_decide_eq_false hs))
  | latch => exact h.ages.not_aged hs

/-- An expiry that was due and is not any more is not due at the next tick either. -/
theorem IsExpiry.not_ready_again (he : IsExpiry c ready event) (h : s.Calm t) (hs : ready s = true) (ht : ready t = false)
    (h' : t.Calm u) : ready u.count = false := by
  cases he with
  | width l =>
    have line : u.count.line l = (u.line l).tick := by simp [State.line]
    refine decide_eq_false ?_
    rw [line]
    exact (h.lines l).1.tick_ne_zero (of_decide_eq_true hs) (of_decide_eq_false ht) (h'.lines l).1
  | gap l =>
    have line : u.count.line l = (u.line l).tick := by simp [State.line]
    refine decide_eq_false ?_
    rw [line]
    exact (h.lines l).2.tick_ne_zero (of_decide_eq_true hs) (of_decide_eq_false ht) (h'.lines l).2
  | holdoff n =>
    have trigger : u.count.trigger n = (u.trigger n).tick := by simp [State.trigger]
    refine decide_eq_false ?_
    rw [trigger]
    exact (h.timer n).tick_ne_zero (of_decide_eq_true hs) (of_decide_eq_false ht) (h'.timer n)
  | latch => exact h.ages.tick_not_aged hs ht h'.ages

end

/-! ## The commands that are left of a tick -/

/-- What a command that is left of the tick before takes. -/
def leftEvent : Instr → State → State
  | .decoderEvaluation e => State.takeEvaluation e
  | .indexEdge e => State.takeZChange e
  | .triggerLevelChange n => State.takeLevelChange n
  | .syncEdge => State.takeSyncChange
  | .holdoffExpiry n => State.when (State.holdoffOver n) (State.expireHoldoff n)
  | .widthExpiry l => State.when (State.widthOver l) (State.expireWidth l)
  | .gapExpiry l => State.when (State.gapOver l) (State.expireGap l)
  | .ageLatchSet => State.when State.aged State.setAgeLatch
  | _ => id

theorem IsExpiry.leftEvent_eq {c : Instr} {ready : State → Bool} {event : State → State} (h : IsExpiry c ready event) :
    leftEvent c = State.when ready event := by cases h <;> rfl

/-- A command that may be left over: an event of a sample point, or an expiry that is due and whose tick the counters have not
passed. -/
inductive IsLeft (s : State) : Instr → Prop
  | evaluation (n : AxisNo) : IsLeft s (.decoderEvaluation { axis := n })
  | zChange (n : AxisNo) : IsLeft s (.indexEdge { axis := n })
  | levelChange (n : TriggerNo) : IsLeft s (.triggerLevelChange n)
  | syncChange : IsLeft s .syncEdge
  | expiry (c ready event) (he : IsExpiry c ready event) (hs : ready s = true) (hc : s.counted = false) : IsLeft s c

section
variable {s t : State}

theorem State.Since.requeue (h : s.Since t) (q : List Instr) : s.Since (t.requeue q) :=
  h.step h.lines ⟨rfl, rfl, fun _ => rfl, fun _ => rfl, fun _ => later_refl _, State.linesLater_of_lines rfl, rfl,
    t.journal.ages_refl⟩

theorem State.Since.when_expiry (h : s.Since t) {c : Instr} {ready : State → Bool} {event : State → State}
    (he : IsExpiry c ready event) : s.Since (t.when ready event) :=
  t.when_keeps s.Since _ _ h fun _ => h.expiry he

theorem IsLeft.since {c : Instr} (hc : IsLeft s c) (h : s.Since t) : s.Since (leftEvent c t) := by
  cases hc with
  | evaluation n => exact h.takeEvaluation n
  | zChange n => exact h.takeZChange n
  | levelChange n => exact h.takeLevelChange n
  | syncChange => exact h.takeSyncChange
  | expiry _ _ _ he _ _ => rw [he.leftEvent_eq]; exact h.when_expiry he

/-- The expiry of a timer that was due, whatever has been taken of the tick since, is taken or over. -/
theorem State.Since.exec_expiry (h : s.Since t) (hr : s.inReset = false) {c : Instr} {ready : State → Bool}
    {event : State → State} (he : IsExpiry c ready event) (hs : ready s = true) (hc : s.counted = false) :
    exec c t = .next (t.when ready event) := by
  rw [exec_of_fallsWithTick he.fallsWithTick (h.calm.inReset.trans hr), State.when]
  cases ht : ready t with
  | true => rw [State.atTick_of_ready ht, if_pos rfl]
  | false =>
    have count : t.countTick = t.takeSampled.takeExpiries.count := by
      rw [State.countTick, if_neg (by rw [h.calm.counted, hc]; exact nofun)]
    have later : t.Since t.takeSampled.takeExpiries := State.Since.takeExpiries (State.Since.takeSampled ⟨h.lines, t.calm_refl⟩)
    rw [State.atTick_of_neither ht (by rw [count]; exact he.not_ready_again h.calm hs ht later.calm), if_neg nofun]

/-- A left-over command takes its event, and no other. -/
theorem IsLeft.exec {c : Instr} (hc : IsLeft s c) (h : s.Since t) (hr : s.inReset = false) (q : List Instr) :
    exec c (t.requeue q) = .next ((leftEvent c t).requeue q) := by
  have ht : (t.requeue q).inReset = false := h.calm.inReset.trans hr
  cases hc with
  | evaluation n => exact (exec_of_running (.decoderEvaluation _) ht nofun).trans (congrArg _ (t.requeue_takeEvaluation q _))
  | zChange n => exact (exec_of_running (.indexEdge _) ht nofun).trans (congrArg _ (t.requeue_takeZChange q _))
  | levelChange n => exact (exec_of_running (.triggerLevelChange n) ht nofun).trans (congrArg _ (t.requeue_takeLevelChange q n))
  | syncChange => exact (exec_of_running .syncEdge ht nofun).trans (congrArg _ (t.requeue_takeSyncChange q))
  | expiry _ _ _ he hs hc =>
    rw [he.leftEvent_eq, (h.requeue q).exec_expiry hr he hs hc, FallsWithTick.requeue_when q t he.fallsWithTick]

/-- A run of left-over commands takes their events one after another. -/
theorem run_left (cs : List Instr) (hcs : ∀ c ∈ cs, IsLeft s c) (h : s.Since t) (hr : s.inReset = false) :
    Host.Core.run Sys2Proof.core cs.length (t.requeue cs) = .next ((cs.foldl (fun t c => leftEvent c t) t).requeue []) := by
  induction cs generalizing t with
  | nil => rfl
  | cons c cs ih =>
    have hc := hcs c List.mem_cons_self
    exact (run_of_pending (s := t.requeue (c :: cs)) rfl (hc.exec h hr cs)).trans (ih (fun b hb => hcs b (List.mem_cons_of_mem _ hb)) (hc.since h))

/-- The expiries that were not due take nothing. -/
theorem foldl_left_filter (cs : List Instr) (hcs : ∀ c ∈ cs, ∃ ready event, IsExpiry c ready event) (h : s.Since t) :
    (cs.filter fun c => s.reached c = some true).foldl (fun t c => leftEvent c t) t =
      cs.foldl (fun t c => leftEvent c t) t := by
  induction cs generalizing t with
  | nil => rfl
  | cons c cs ih =>
    have rest := ih (t := leftEvent c t) fun b hb => hcs b (List.mem_cons_of_mem _ hb)
    obtain ⟨ready, event, he⟩ := hcs c List.mem_cons_self
    have since : s.Since (leftEvent c t) := by rw [he.leftEvent_eq]; exact h.when_expiry he
    have reached := he.fallsWithTick.reached s
    rw [List.foldl_cons, ← rest since]
    cases hs : ready s with
    | true => simp [reached, hs]
    | false =>
      have quiet : leftEvent c t = t := by
        rw [he.leftEvent_eq]
        exact if_neg (by rw [he.fallsWithTick.not_ready_later h.calm hs]; exact nofun)
      simp [reached, hs, quiet]

end

/-! ## The expiries in either order -/

section
variable (t : State)

/-- A change of one line by what the line is. -/
def State.mapLine (f : Line → Line) (s : State) (l : LineNo) : State := s.setLine l (f (s.line l))

/-- A line by line change touches the lines alone. -/
theorem foldl_mapLine_frame (f : Line → Line) (ls : List LineNo) :
    ls.foldl (State.mapLine f) t = { t with lines := (ls.foldl (State.mapLine f) t).lines } := by
  induction ls generalizing t with
  | nil => rfl
  | cons l ls ih => rw [List.foldl_cons, ih]; rfl

theorem foldl_mapLine_line (f : Line → Line) (ls : List LineNo) (hn : ls.Nodup) (m : LineNo) :
    (ls.foldl (State.mapLine f) t).line m = if m ∈ ls then f (t.line m) else t.line m := by
  induction ls generalizing t with
  | nil => rfl
  | cons l ls ih =>
    obtain ⟨hl, hn⟩ := List.nodup_cons.mp hn
    rw [List.foldl_cons, ih _ hn, State.mapLine]
    by_cases e : l = m
    · subst e
      simp [hl]
    · simp [e, Ne.symm e]

theorem State.eq_of_lines {t r r' : State} (h : r = { t with lines := r.lines }) (h' : r' = { t with lines := r'.lines })
    (hl : ∀ m, r.line m = r'.line m) : r = r' := by
  have lines : r.lines = r'.lines := Vector.ext fun i hi => hl ⟨i, hi⟩
  exact h.trans ((congrArg (fun v => { t with lines := v }) lines).trans h'.symm)

/-- Two line by line changes, one after the other or both at each line: the lines are independent. -/
theorem foldl_mapLine_comp (f g : Line → Line) (ls : List LineNo) (hn : ls.Nodup) :
    ls.foldl (State.mapLine g) (ls.foldl (State.mapLine f) t) = ls.foldl (State.mapLine fun x => g (f x)) t := by
  have both := (foldl_mapLine_frame (ls.foldl (State.mapLine f) t) g ls).trans
    (congrArg (fun w : State => { w with lines := (ls.foldl (State.mapLine g) (ls.foldl (State.mapLine f) t)).lines })
      (foldl_mapLine_frame t f ls))
  refine State.eq_of_lines both (foldl_mapLine_frame t (fun x => g (f x)) ls) fun m => ?_
  rw [foldl_mapLine_line _ g ls hn, foldl_mapLine_line _ f ls hn, foldl_mapLine_line t (fun x => g (f x)) ls hn]
  by_cases h : m ∈ ls <;> simp only [h, if_true, if_false]

/-- The width timers of all lines and then the gap timers, or line by line (R91). -/
theorem endTimers_either_order (ls : List LineNo) (hn : ls.Nodup) :
    ls.foldl (fun t l => t.when (State.gapOver l) (State.expireGap l))
        (ls.foldl (fun t l => t.when (State.widthOver l) (State.expireWidth l)) t) =
      ls.foldl (fun t l => t.endTimers l) t := by
  simp only [State.when_gapOver, State.when_widthOver, State.endTimers_eq]
  exact foldl_mapLine_comp t Line.widthEnded Line.gapEnded ls hn

end

end Sys2Proof.Machine
end

section
/-! The tick of the timebase (R121, R122), with what is left of the tick before. -/
namespace Sys2Proof.Machine

/-! ## What is left of the tick before, in its own commands -/

/-- The events of the sample points, axes first. -/
def sampledRows : List Instr :=
  ([0, 1, 2, 3] : List AxisNo).flatMap (fun n => [.decoderEvaluation { axis := n }, .indexEdge { axis := n }]) ++
    ([0, 1, 2, 3] : List TriggerNo).map .triggerLevelChange ++ [.syncEdge]

/-- The rows of the expiries. -/
def expiryRows : List Instr :=
  ([0, 1, 2, 3] : List TriggerNo).map Instr.holdoffExpiry ++
    ([0, 1, 2, 3, 4, 5, 6, 7] : List LineNo).map Instr.widthExpiry ++
    ([0, 1, 2, 3, 4, 5, 6, 7] : List LineNo).map Instr.gapExpiry ++ [Instr.ageLatchSet]

/-- The rows that are left of the tick before: the expiries that are due, where the counters have still to count the tick. -/
def State.leftRows (s : State) : List Instr :=
  if s.counted then sampledRows else sampledRows ++ expiryRows.filter fun c => s.reached c = some true

/-- The part once they are taken. -/
def State.endTick (s : State) : State := if s.counted then s.takeSampled else s.takeSampled.takeExpiries

theorem isExpiry_of_mem {c : Instr} (h : c ∈ expiryRows) : ∃ ready event, IsExpiry c ready event := by
  simp only [expiryRows, List.mem_append, List.mem_map, List.mem_singleton] at h
  obtain ((⟨n, _, rfl⟩ | ⟨l, _, rfl⟩) | ⟨l, _, rfl⟩) | rfl := h
  · exact ⟨_, _, .holdoff n⟩
  · exact ⟨_, _, .width l⟩
  · exact ⟨_, _, .gap l⟩
  · exact ⟨_, _, .latch⟩

section
variable (s : State)

theorem isLeft_sampledRows : ∀ c ∈ sampledRows, IsLeft s c := by
  intro c h
  simp only [sampledRows, List.mem_append, List.mem_flatMap, List.mem_map, List.mem_cons, List.not_mem_nil, or_false] at h
  obtain (⟨n, _, rfl | rfl⟩ | ⟨n, _, rfl⟩) | rfl := h
  · exact .evaluation n
  · exact .zChange n
  · exact .levelChange n
  · exact .syncChange

theorem foldl_sampledRows (t : State) : sampledRows.foldl (fun t c => leftEvent c t) t = t.takeSampled := by
  have axes : ∀ (ns : List AxisNo) (t : State),
      (ns.flatMap fun n => [Instr.decoderEvaluation { axis := n }, .indexEdge { axis := n }]).foldl
        (fun t c => leftEvent c t) t =
      ns.foldl (fun t n => (t.takeEvaluation { axis := n }).takeZChange { axis := n }) t := fun ns t => by
    rw [List.foldl_flatMap]
    rfl
  rw [sampledRows, List.foldl_append, List.foldl_append, axes, List.foldl_map, List.foldl_cons, List.foldl_nil]
  generalize hs : ([0, 1, 2, 3] : List AxisNo).foldl
    (fun t n => (t.takeEvaluation { axis := n }).takeZChange { axis := n }) t = u
  rw [State.takeSampled, hs]
  simp only [leftEvent]

theorem foldl_expiryRows (t : State) : expiryRows.foldl (fun t c => leftEvent c t) t = t.takeExpiries := by
  have lines := endTimers_either_order
    (([0, 1, 2, 3] : List TriggerNo).foldl (fun t n => t.when (State.holdoffOver n) (State.expireHoldoff n)) t)
    [0, 1, 2, 3, 4, 5, 6, 7] (by decide)
  simp only [expiryRows, List.foldl_append, List.foldl_map, List.foldl_cons (l := []), List.foldl_nil, leftEvent]
  simp only [State.takeExpiries, State.endTimers] at lines ⊢
  rw [lines]

variable {s}

theorem isLeft_leftRows : ∀ c ∈ s.leftRows, IsLeft s c := by
  intro c h
  unfold State.leftRows at h
  split at h
  · exact isLeft_sampledRows s c h
  · obtain h | h := List.mem_append.mp h
    · exact isLeft_sampledRows s c h
    · obtain ⟨hmem, hs⟩ := List.mem_filter.mp h
      obtain ⟨ready, event, he⟩ := isExpiry_of_mem hmem
      have due : ready s = true := by
        have := he.fallsWithTick.reached s
        rw [of_decide_eq_true hs] at this
        exact (Option.some.inj this).symm
      exact .expiry c ready event he due (Bool.eq_false_iff.mpr ‹_›)

/-- An expiry makes no event of a sample point. -/
theorem State.SamplesTaken.takeExpiries (h : s.SamplesTaken) : s.takeExpiries.SamplesTaken := by
  refine s.takeExpiries_keeps State.SamplesTaken (fun n t ht _ => ?_) (fun _ _ ht _ => ht) (fun _ _ ht _ => ht)
    (fun _ ht _ => ht) h
  obtain ⟨axes, triggers, sync⟩ := ht
  refine ⟨axes, fun m => ?_, sync⟩
  rw [State.expireHoldoff, State.setTrigger_trigger]
  split
  · subst m; exact triggers n
  · exact triggers m

/-- The left-over rows, taken one after another, make the part at the end of the tick. -/
theorem foldl_leftRows (h : s.LinesSound) : s.leftRows.foldl (fun t c => leftEvent c t) s = s.endTick := by
  unfold State.leftRows State.endTick
  split
  · exact foldl_sampledRows s
  · have since : s.Since s.takeSampled := State.Since.takeSampled ⟨h, s.calm_refl⟩
    rw [List.foldl_append, foldl_sampledRows, foldl_left_filter expiryRows (fun c hc => isExpiry_of_mem hc) since,
      foldl_expiryRows]

theorem State.since_endTick (h : s.LinesSound) : s.Since s.endTick := by
  have since : s.Since s.takeSampled := State.Since.takeSampled ⟨h, s.calm_refl⟩
  unfold State.endTick
  split
  · exact since
  · exact since.takeExpiries

/-- The end of a tick leaves nothing of it. -/
theorem State.endTick_settled (h : s.LinesSound) : s.endTick.Settled := by
  have since : s.Since s.takeSampled := State.Since.takeSampled ⟨h, s.calm_refl⟩
  unfold State.endTick
  split
  · exact ⟨s.takeSampled_samplesTaken, fun hc => by
      rw [since.calm.counted, ‹s.counted = true›] at hc
      cases hc⟩
  · exact ⟨s.takeSampled_samplesTaken.takeExpiries, fun _ => since.lines.takeExpiries_taken⟩

theorem State.endTick_pending (s : State) : s.endTick.pending = s.pending := by
  have kept := pending_keptByEvents s.pending
  have sampled := kept.takeSampled (s := s) rfl
  have expired := s.takeSampled.takeExpiries_keeps (fun t => t.pending = s.pending) kept.holdoff kept.width kept.gap
    kept.latch sampled
  unfold State.endTick
  split
  · exact sampled
  · exact expired

/-- A tick takes what is left of the tick before, and then is the tick of the part without it (R121). -/
theorem State.tick_endTick (h : s.LinesSound) : s.endTick.tick = s.tick := by
  rw [State.tick_of_settled (State.endTick_settled h), (State.since_endTick h).calm.counted, State.tick, State.countTick,
    State.endTick]
  cases hc : s.counted with
  | true => simp
  | false =>
    have taken : s.takeSampled.takeExpiries.count.SamplesTaken := s.takeSampled_samplesTaken.takeExpiries.count
    simp [State.takeSampled_of_taken _ taken]

theorem State.countTick_eq (hc : s.counted = false) : s.countTick = s.endTick.count := by
  rw [State.countTick, State.endTick, if_neg (by rw [hc]; exact nofun), if_neg (by rw [hc]; exact nofun)]

/-- The tick of trim is the one that brings the interval count to N (R122). -/
theorem Timebase.TrimSound.adjusts_iff {b : Timebase} (h : b.TrimSound) : b.adjusts = true ↔ b.AtAdjustedTick := by
  obtain ⟨_, _, hlt, _⟩ := h
  simp only [Timebase.adjusts, Timebase.AtAdjustedTick, Bool.and_eq_true, decide_eq_true_eq]
  exact and_congr_right fun _ => by omega

end

/-! ## The tick itself -/

section
variable {b : Timebase}

theorem Timebase.tick_of_plain (ha : b.adjusts = false) : b.advance = 1 ∧ b.tick = { b with
    time := b.time + 1, intervalCount := if b.trimMode = .off then 0 else b.intervalCount + 1 } := by
  simp [Timebase.tick, Timebase.advance, ha]

theorem Timebase.tick_of_add (ha : b.adjusts = true) (hm : b.trimMode = .add) : b.advance = 2 ∧ b.tick = { b with
    time := b.time + 2, intervalCount := 0, adds := satInc b.adds } := by
  simp [Timebase.tick, Timebase.advance, ha, hm]

theorem Timebase.tick_of_skip (ha : b.adjusts = true) (hm : b.trimMode = .skip) : b.advance = 0 ∧ b.tick = { b with
    intervalCount := 0, skips := satInc b.skips } := by
  simp [Timebase.tick, Timebase.advance, ha, hm]

theorem Timebase.tick_intervalCount_of_adjusts (ha : b.adjusts = true) : b.tick.intervalCount = 0 := by
  simp [Timebase.tick, ha]

end

/-- A tick on a part on which nothing is left moves the counters of CLKIN, where they have still to count it, the time, the
comparisons of the schedules and the moment of the journal. -/
theorem State.tick_parts {s : State} (h : s.Settled) : ∃ due, s.tick.timebase = { s.timebase.tick with sampleDue := due } ∧
    s.tick.schedules = (if s.timebase.advance = 0 then s.schedules else s.takeUpAll.schedules) ∧ s.tick.counted = false ∧
    s.tick = { s with counted := false, timebase := s.tick.timebase, schedules := s.tick.schedules, axes := s.tick.axes
                      lines := s.tick.lines, triggers := s.tick.triggers, journal := s.tick.journal } := by
  rw [State.tick_of_settled h]
  split
  · exact ⟨_, rfl, rfl, rfl, rfl⟩
  · exact ⟨true, rfl, rfl, rfl, rfl⟩

/-- Settles O39: what is left is taken by the left-over rows one after another, and the tick finds nothing of it. -/
theorem tickAdvancesTheTime : Obligations.TickAdvancesTheTime := by
  constructor
  · intro s hr hlines sampled lines expiries left
    have since := State.since_endTick hlines
    have settled := State.endTick_settled hlines
    have tick : ∀ t : State, t.inReset = false → exec .timebaseTick t = .next t.tick := fun t ht =>
      exec_of_running .timebaseTick ht nofun
    have endReset : s.endTick.inReset = false := since.calm.inReset.trans hr
    have queue : { s.endTick.requeue [] with pending := s.pending } = s.endTick := by
      rw [← State.endTick_pending s]
      rfl
    refine ⟨s.endTick.requeue [], ?_, settled, ?_, fun hs ha => ?_, fun hs ha => ?_, fun c hn hc => ?_⟩
    · rw [← foldl_leftRows hlines]
      exact run_left s.leftRows isLeft_leftRows ⟨hlines, s.calm_refl⟩ hr
    · rw [queue, tick s hr, tick _ endReset, State.tick_endTick hlines]
    · rw [tick s hr]
      exact (exec_of_running .trimAdjustedTick hr nofun).trans (congrArg _ (if_pos (hs.adjusts_iff.mpr ha)))
    · exact (exec_of_running .trimAdjustedTick hr nofun).trans (congrArg _ (if_neg (mt hs.adjusts_iff.mp ha)))
    · obtain ⟨ready, event, hf, hn⟩ := fallsWithTick_of_not_reached hn
      have count := State.countTick_eq hc
      have endCount := s.endTick.countTick_of_settled settled (since.calm.counted.trans hc)
      rw [queue, hf.reached, show (s.endTick.requeue []).count = s.endTick.count.requeue [] from rfl, hf.ready_requeue]
      refine ⟨fun h => ?_, fun h => ?_⟩
      · have ready := Option.some.inj h
        rw [exec_before_tick hf hr hn (t := s.endTick.count) endReset count ready,
          exec_before_tick hf endReset (hf.not_ready_later since.calm hn) (t := s.endTick.count) endReset endCount ready]
      · exact exec_not_reached hf hr hn (by rw [count]; exact Option.some.inj h)
  · intro s hr hsound hsettled b
    obtain ⟨due, time, schedules, counted, frame⟩ := State.tick_parts hsettled
    have rise : ∀ k : Nat, (b.time + BitVec.ofNat 48 k).toNat = (b.time.toNat + k) % 2 ^ 48 := fun k => by
      rw [BitVec.toNat_add, BitVec.toNat_ofNat, Nat.add_mod_mod]
    have advanced : b.advance ≠ 0 → ∀ n, s.tick.schedule n = { s.schedule n with compareDue := true } := fun h n => by
      rw [State.schedule, schedules, if_neg h]
      exact s.takeUpAll_schedule n
    refine ⟨s.tick, exec_of_running .timebaseTick hr nofun, counted, fun ha => ?_, fun ha => ⟨?_, fun hm => ?_, fun hm => ?_⟩,
      by rw [time]; rfl, frame⟩
    · obtain ⟨one, tick⟩ := Timebase.tick_of_plain (Bool.eq_false_iff.mpr (mt hsound.adjusts_iff.mp ha))
      rw [time, tick]
      exact ⟨rise 1, rfl, rfl, rfl, advanced (by rw [one]; decide)⟩
    · rw [time]
      exact Timebase.tick_intervalCount_of_adjusts (hsound.adjusts_iff.mpr ha)
    · obtain ⟨two, tick⟩ := Timebase.tick_of_add (hsound.adjusts_iff.mpr ha) hm
      rw [time, tick]
      exact ⟨rise 2, satInc_toNat _ (by decide), rfl, advanced (by rw [two]; decide)⟩
    · obtain ⟨zero, tick⟩ := Timebase.tick_of_skip (hsound.adjusts_iff.mpr ha) hm
      rw [time, tick]
      exact ⟨rfl, satInc_toNat _ (by decide), rfl, schedules.trans (if_pos zero)⟩

end Sys2Proof.Machine
end
